-- ==== Sys2Proof/Word.lean ====
section
/-! DEFINITION. The words of the part: bytes of its two links, the 16-bit data fields of its log records, and the
run-time counter's readings. Everything else the manual counts in (mV, mA, µs, permille, counts) is a plain number. -/
namespace Sys2Proof

/-- One byte on the assist port or on RL. -/
abbrev Byte := BitVec 8

/-- A data field of a log record (R198). -/
abbrev Half := BitVec 16

/-- A reading of the run-time counter: milliseconds, 32 bits, wrapping (section 0.5, R55). -/
abbrev Time := BitVec 32

end Sys2Proof
end

