-- ==== Sys2Proof/Syntax.lean ====
section
/-! DEFINITION. The commands of the part, one constructor per row of spec/opcode_table.json: the assist requests, and the
events of the pack, the pins, the radio link and the part's own timers and clocks. An operand is what the world supplies
with the command and nothing the part itself holds. -/
namespace Sys2Proof

/-- The five functions, in the manual's function order (R105). -/
inductive Fn where
  | throttle | steer | steerMode | winch | lights
  deriving DecidableEq, Repr

/-- One transaction that carries a complete request (R204): the parameter bytes that follow the code and the length byte,
and the bytes clocked beyond the request, which the part ignores but during which it goes on shifting out its response. -/
structure Request where
  params : List Byte
  extra  : List Byte
  deriving DecidableEq, Repr

/-- How the bytes of an assembled radio frame were received (R71): without a framing error, with one, or while the port was
transmitting a telemetry reply that the frame overlaps. -/
inductive Reception where
  | clean | framingError | overlapsReply
  deriving DecidableEq, Repr

/-- The commands. The first 21 constructors are the requests of R205's catalogue, in its order of codes. -/
inductive Instr where
  | nop (r : Request)
  | readStatus (r : Request)
  | readPack (r : Request)
  | readAllotment (r : Request)
  | readCommands (r : Request)
  | claim (r : Request)
  | release (r : Request)
  | winchJob (r : Request)
  | winchCancel (r : Request)
  | winchClear (r : Request)
  | hazard (r : Request)
  | ackLocate (r : Request)
  | limpHome (r : Request)
  | park (r : Request)
  | readLog (r : Request)
  | readSetting (r : Request)
  | writeSetting (r : Request)
  | commit (r : Request)
  | restoreDefaults (r : Request)
  | clearCauses (r : Request)
  | restart (r : Request)
  /-- A completed sample set: the four readings, in mV and mA, before R1 limits them. -/
  | sampleSet (vMeas iMeas iServo iWinch : Int)
  | tripHoldExpiry
  | tripLimpExpiry
  | limpHomePeriodExpiry
  /-- The pack rail against the backup cell, in mV (R50). -/
  | packAttach (railMv backupMv : Nat)
  | packRemoved (railMv backupMv : Nat)
  /-- The backup cell, in mV, as the Retention Domain compares it in RETAIN (R56). -/
  | retentionLoss (backupMv : Nat)
  | backupMeasurement (mv : Nat)
  | srvPgChange (good : Bool)
  | railWaitExpiry
  | parkIdleExpiry
  /-- The bytes of a frame between two idle times of RL (R71). -/
  | radioFrame (bytes : List Byte) (rx : Reception)
  | holdTimerExpiry
  | failsafeTimerExpiry
  /-- The opening of the reply slot, with RL sampled idle or not (R82). -/
  | telemetryReply (lineIdle : Bool)
  | claimExpiry (f : Fn)
  | lockoutNeutralRunExpiry (f : Fn)
  | switchLockoutExpiry (f : Fn)
  | steerFrame
  | transitionTimerExpiry
  | escFrame
  | winchFrame
  | stoppingDwellExpiry
  | encPulse
  | hookDebounceExpiry
  | stallNeutralRunExpiry
  | jobTimeout
  | freeForExpiry
  /-- The expiry of the present pattern step of one light channel. -/
  | patternStep (ch : Fin 8)
  | blinkerStep
  | tiltDebounceExpiry
  | tiltArmingExpiry
  | linkArmingExpiry
  | assistWindowExpiry
  /-- The end of the 60 ms write, with the read-back equal to the image or not (R209). -/
  | commitEnd (readBackOk : Bool)
  /-- A complete request whose code is not in the catalogue. -/
  | unknownRequest (code : Byte) (r : Request)
  /-- The bytes clocked in by a transaction released before its request was complete. -/
  | incompleteTransaction (bytes : List Byte)
  | backupCellFitted
  | hookInputChange (closed : Bool)
  | tiltInputChange (asserted : Bool)
  deriving DecidableEq, Repr

end Sys2Proof
end

