-- ==== Sys2Proof/Decode.lean ====
section
/-! DEFINITION. The command that a word of spec/opcode_table.json spells. The table gives none of its 61 rows any bits
("fields": [] in every row, no "match"), so no word spells a command. The part's own wire decoding (requests, frames,
setting values) is in Machine/Operands.lean. -/
namespace Sys2Proof

/-- No row of the table has bits, so no word of any width spells a command. -/
def decodeTableWord (_nbits _w : Nat) : Option Instr := none

end Sys2Proof
end

