-- ==== Sys2Proof/Config.lean ====
section
/-! DEFINITION. What the manual leaves open and the model leaves open too: free values. None has a body, so nothing can be
proved of what it is. -/
namespace Sys2Proof.Config

/-- The 16 bits sent for a quantity above 65,535 in a response or a telemetry reply: V_comp and V_cell (R25, R41) and
used_mAh (R25, R83) can exceed the field R212 gives them, and no rule says what is then sent. -/
opaque wide16 : Nat → BitVec 16

end Sys2Proof.Config
end

