-- ==== Sys2Proof/Machine/Types.lean ====
section
/-! DEFINITION. The names and records of the manual: levels, states, modes, targets, conditions, log kinds, the records each
block holds and the settings of each chapter. Fixed numbers of like things (eight light channels, eight gates) are structures
with one field each, so that a state stays plain data whose parts are read by name. -/
namespace Sys2Proof.Machine

/-! ## Small tables -/

/-- Eight like things: gates, light channels, scene assignments. -/
structure Eight (α : Type) where
  e0 : α
  e1 : α
  e2 : α
  e3 : α
  e4 : α
  e5 : α
  e6 : α
  e7 : α
  deriving DecidableEq, Repr

/-- Four like things: gesture entries, scenes. -/
structure Four (α : Type) where
  e0 : α
  e1 : α
  e2 : α
  e3 : α
  deriving DecidableEq, Repr

/-- One thing for each of the five functions. -/
structure PerFn (α : Type) where
  throttle  : α
  steer     : α
  steerMode : α
  winch     : α
  lights    : α
  deriving DecidableEq, Repr

/-- One thing for each consumer class, in order of priority (chapter 2). -/
structure PerClass (α : Type) where
  steer  : α
  signal : α
  drive  : α
  winch  : α
  scene  : α
  deriving DecidableEq, Repr

/-- One thing for each of the seven targets, in the order of R117. -/
structure PerTarget (α : Type) where
  driveFwd    : α
  driveRev    : α
  steerRear   : α
  modeChange  : α
  winchHaul   : α
  winchPayout : α
  sceneLights : α
  deriving DecidableEq, Repr

/-! ## Time -/

/-- A running timer: when it began and how many ms it takes. Its end time is `start + dur`, and whether it has run out is
judged on the elapsed time modulo 2^32 (R2, R55). -/
structure Timer where
  start : Time
  dur   : Nat
  deriving DecidableEq, Repr

/-- A frame clock or measurement clock: when it last fell and its period in force. -/
structure FrameClock where
  last   : Time
  period : Nat
  deriving DecidableEq, Repr

/-! ## Names -/

/-- The levels, from best to worst (section 0.4). -/
inductive Level where
  | normal | conserve | limp | cutoff
  deriving DecidableEq, Repr

/-- The supply states, in the order of R49's table. -/
inductive SupplyState where
  | retain | qualify | active | park
  deriving DecidableEq, Repr

/-- The three starts, in the order of R54. -/
inductive StartCause where
  | coldStart | packStart | restartReq
  deriving DecidableEq, Repr

/-- The servo rail (section 3.6). -/
inductive Rail where
  | off | wait | good | fault
  deriving DecidableEq, Repr

/-- The link states, in the order of section 4.2's table (R212). -/
inductive LinkState where
  | noLink | rearm | up | holding | lost
  deriving DecidableEq, Repr

/-- The steering modes, in the order of R78. -/
inductive Mode where
  | front | rear | counter | crab
  deriving DecidableEq, Repr

/-- The positions of a three-position switch (R77). -/
inductive Position where
  | low | mid | high
  deriving DecidableEq, Repr

/-- The gesture actions, in the order of R88's table. -/
inductive GestureAction where
  | limpHome | ackLocate | winchFree | winchClear | park | modeNext | hazardToggle
  deriving DecidableEq, Repr

/-- The telemetry kinds, in the order of the rotation (R83). -/
inductive TelemKind where
  | pack | energy | winch | notice
  deriving DecidableEq, Repr

/-- The kinds of claim (chapter 5). -/
inductive ClaimKind where
  | full | blend | cap
  deriving DecidableEq, Repr

/-- Why a claim ended, in the order of R105. -/
inductive ClaimEnd where
  | expired | released | takeover | link | park
  deriving DecidableEq, Repr

/-- The fourteen conditions, in the order of R110's table. -/
inductive Cond where
  | linkUp | linkLost | assistActive | throttleNeutral | steerSettled | winchMoving | hookStowed
  | tilted | levelReduced | levelLimp | tripActive | locateActive | latchA | latchB
  deriving DecidableEq, Repr

/-- The seven targets, in the order of R117. -/
inductive Target where
  | driveFwd | driveRev | steerRear | modeChange | winchHaul | winchPayout | sceneLights
  deriving DecidableEq, Repr

inductive TargetState where
  | opened | held | released
  deriving DecidableEq, Repr

inductive GateAction where
  | release | hold
  deriving DecidableEq, Repr

/-- The mode-change state of the Steering Unit. -/
inductive Phase where
  | steady | waiting | transition
  deriving DecidableEq, Repr

/-- The winch states, in the order of chapter 9's table. -/
inductive WinchState where
  | idle | hauling | payingOut | stopping | free | stalled
  deriving DecidableEq, Repr

inductive Direction where
  | haul | payout
  deriving DecidableEq, Repr

/-- The job kinds, in the order of R170. -/
inductive JobKind where
  | haulBy | payoutBy | haulToTension | haulToStow | freeFor
  deriving DecidableEq, Repr

/-- How a job ended (R172 to R175). -/
inductive JobOutcome where
  | done | stowed | limit | timeout | stalled | aborted
  deriving DecidableEq, Repr

/-- The roles of a light channel, in the order of R181. -/
inductive Role where
  | head | tail | brake | reverse | turnL | turnR | rock | bar | beacon
  deriving DecidableEq, Repr

inductive LightClass where
  | signal | scene
  deriving DecidableEq, Repr

/-- What decides what a light channel shows, in the order of R184's table. -/
inductive Source where
  | locate | hazard | turn | brake | reverse | scene
  deriving DecidableEq, Repr

/-- What set the locate latch (R194). -/
inductive LocateCause where
  | cutoff | tilt | link
  deriving DecidableEq, Repr

/-- Who asked: a request or a gesture. -/
inductive Origin where
  | request | gesture
  deriving DecidableEq, Repr

/-- What wakes a parked part, in the order of R67's table. -/
inductive WakeSource where
  | frame | gesture | assist | hook | tilt
  deriving DecidableEq, Repr

/-- What parked the part (R66). -/
inductive ParkSource where
  | request | gesture | idle
  deriving DecidableEq, Repr

/-- The component behind a LEVEL_CHANGE, in the order of precedence of R19. -/
inductive LevelCause where
  | floor | limpHome | voltage | energy | trip
  deriving DecidableEq, Repr

/-- Why a qualification window failed (R57). -/
inductive QualifyReason where
  | low | high | unstable
  deriving DecidableEq, Repr

/-- The commit state (R209). -/
inductive CommitState where
  | idle | writing | done | failed
  deriving DecidableEq, Repr

/-- The statuses, in the order of section 12.2. -/
inductive Status where
  | ok | okClamped | busy | invalid | unknown | refused | lockedOut | notHeld | queueFull | used | lowReserve | empty
  deriving DecidableEq, Repr

/-! ## The event log (chapter 11) -/

inductive Severity where
  | info | warn | fault
  deriving DecidableEq, Repr

/-- The blocks, in the order of section 0.3.2. -/
inductive Block where
  | packMonitor | protection | budget | supply | retention | radio | authority | interlock | steering | drive
  | winch | lights | eventLog | assistPort | settingsStore
  deriving DecidableEq, Repr

/-- The kinds of record, in the order of R199. -/
inductive LogKind where
  | start | packTaken | packRemoved | qualifyFail | backupLow | railFault | parkEnter | parkWake | levelChange
  | trip | limpHomeGranted | linkState | gesture | claimEnd | targetReleased | modeApplied | modeForced
  | modeDropped | winchStall | hookSeated | payoutLimit | winchJobEnd | queueFlushed | locateArmed | locateAck
  | settingGuard | commitEnd
  deriving DecidableEq, Repr

/-- A record (R198). Its source block and severity are fixed by its kind (Machine/Codes.lean). -/
structure LogRecord where
  time : Time
  kind : LogKind
  data : List Half
  deriving DecidableEq, Repr

/-- The ring, oldest first, with its unread count and overwritten-unread flag (chapter 11). -/
structure Log where
  ring        : List LogRecord
  unread      : Nat
  overwritten : Bool
  deriving DecidableEq, Repr

/-! ## Retention Domain (chapter 3) -/

/-- The pack identity record (R56). `tripLimp` and `limpPeriod` are the running trip-LIMP and limp-home period with their
end times. -/
structure Identity where
  cells      : Nat
  disconnect : Option Nat
  energy     : Nat
  r          : Nat
  level      : Level
  limpUsed   : Bool
  limpPeriod : Option Timer
  trips      : List Time
  tripLimp   : Option Timer
  deriving DecidableEq, Repr

/-- The three start-cause flags (R54). -/
structure StartFlags where
  cold    : Bool
  pack    : Bool
  restart : Bool
  deriving DecidableEq, Repr

/-- The Retention Domain (R56). -/
structure Retention where
  valid     : Bool
  counter   : Time
  identity  : Option Identity
  flags     : StartFlags
  log       : Log
  lineCount : Nat
  deriving DecidableEq, Repr

/-! ## Pack Monitor and Protection Controller (chapter 1) -/

/-- The latest complete sample set, as taken by R1, with what was computed from it (R8). -/
structure SampleSet where
  time   : Time
  vMeas  : Nat
  iMeas  : Nat
  iServo : Nat
  iWinch : Nat
  vComp  : Nat
  vCell  : Nat
  deriving DecidableEq, Repr

structure Monitor where
  clock        : FrameClock
  latest       : SampleSet
  /-- V_meas and I_meas of the previous set, where one is held (R6). -/
  prev         : Option (Nat × Nat)
  /-- The recent I_servo values, oldest first, at most eight (R4). -/
  servo        : List Nat
  usedMah      : Nat
  remainingPct : Option Nat
  tripRun      : Option Time
  /-- The trip hold; TRIP_ACTIVE is that one runs (R12). -/
  tripHold     : Option Timer
  deriving DecidableEq, Repr

/-- A falling timer (R14). -/
inductive Falling where
  | stopped
  | running (start : Time)
  | complete
  deriving DecidableEq, Repr

structure Protection where
  conserveT : Falling
  limpT     : Falling
  cutoffT   : Falling
  rising    : Option Time
  floorT    : Option Time
  /-- The protection mode in force (R23): BENCH or not. -/
  bench     : Bool
  energy    : Level
  effective : Level
  deriving DecidableEq, Repr

/-! ## Current Budget Unit (chapter 2) -/

structure ClassShare where
  demand : Nat
  grant  : Nat
  ratio  : Nat
  deriving DecidableEq, Repr

/-- The published allotment (R41). -/
structure Allotment where
  time      : Time
  supply    : SupplyState
  level     : Level
  cells     : Nat
  vComp     : Nat
  vFloor    : Nat
  headroom  : Nat
  tripFixed : Bool
  classes   : PerClass ClassShare
  deriving DecidableEq, Repr

/-! ## Supply Controller (chapter 3) -/

/-- The open qualification window (R57). -/
structure QualWindow where
  first : Time
  low   : Nat
  high  : Nat
  deriving DecidableEq, Repr

structure QualMarks where
  low      : Bool
  high     : Bool
  unstable : Bool
  deriving DecidableEq, Repr

structure Supply where
  state        : SupplyState
  window       : Option QualWindow
  marks        : QualMarks
  /-- The latest start was a restart (R59). -/
  afterRestart : Bool
  rail         : Rail
  railWait     : Option Timer
  backupClock  : FrameClock
  backupMv     : Option Nat
  backupReady  : Bool
  /-- BACKUP_LOW may still be logged: a pass came and none has been logged since (R62). -/
  backupArmed  : Bool
  trickle      : Bool
  idle         : Option Timer
  hookLatch    : Bool
  tiltLatch    : Bool
  /-- The STEER_MODE and LIGHTS positions at PARK entry (R67). -/
  parkModePos  : Position
  parkLightsPos : Position
  /-- An attach that waits for the end of a commit (R210): the rail and the backup cell, in mV. -/
  attachWaiting : Option (Nat × Nat)
  deriving DecidableEq, Repr

/-- The levels on the input pins whose changes are events: SRV_PG good, HOOK closed, TILT asserted (section 12.5). -/
structure Pins where
  srvPg : Bool
  hook  : Bool
  tilt  : Bool
  deriving DecidableEq, Repr

/-! ## Radio Link Port (chapter 4) -/

/-- The last valid frame (R72). -/
structure Frame where
  time       : Time
  count      : Nat
  rxFailsafe : Bool
  telemReq   : Bool
  quality    : Nat
  /-- Channels 1 to 10, in order. -/
  channels   : List Int
  deriving DecidableEq, Repr

/-- The five driver values, with the positions the two switch values came from (section 4.3). -/
structure DriverValues where
  throttle  : Int
  steer     : Int
  winch     : Int
  mode      : Mode
  modePos   : Position
  scene     : Nat
  lightsPos : Position
  deriving DecidableEq, Repr

/-- The neutral bands in force (R76, R90). -/
structure Bands where
  throttle : Nat
  steer    : Nat
  winch    : Nat
  deriving DecidableEq, Repr

/-- The judging state of a gesture entry (R85, R86). -/
inductive GestureState where
  | clear
  | timing (start : Time) (falseFrom : Option Time)
  | fired (allFalseFrom : Option Time)
  deriving DecidableEq, Repr

structure Radio where
  link     : LinkState
  hold     : Option Timer
  failsafe : Option Timer
  last     : Option Frame
  driver   : DriverValues
  override : Option Mode
  bands    : Bands
  gestures : Four GestureState
  rotation : TelemKind
  /-- The open reply slot: the frame count of the frame that opened it (R82). -/
  slot     : Option Nat
  /-- The bytes of the latest telemetry reply transmitted on RL. -/
  reply    : List Byte
  deriving DecidableEq, Repr

/-! ## Authority Table (chapter 5) -/

/-- A claim record. For STEER_MODE and LIGHTS the values are the code of the mode and the number of the scene.
`expiry` is absent while it is suspended (R98). -/
structure Claim where
  kind      : ClaimKind
  value     : Int
  reference : Int
  /-- The switch position the reference came from, for STEER_MODE and LIGHTS (R94). -/
  refPos    : Option Position
  refreshed : Time
  expiry    : Option Timer
  deriving DecidableEq, Repr

/-- A lockout with reason TAKEOVER: when it began; for a switch function the timer that ends it, for a proportional one the
open neutral run, if any (R103). -/
structure Lockout where
  began : Time
  ends  : Option Timer
  run   : Option Timer
  deriving DecidableEq, Repr

/-- An entry: under ASSIST while it holds a claim, under DRIVER otherwise. -/
structure Entry where
  claim   : Option Claim
  lockout : Option Lockout
  deriving DecidableEq, Repr

/-- The five function commands (R91). -/
structure Commands where
  throttle : Int
  steer    : Int
  mode     : Mode
  winch    : Int
  scene    : Nat
  deriving DecidableEq, Repr

structure Authority where
  entries  : PerFn Entry
  commands : Commands
  /-- THROTTLE_NEUTRAL (R93). -/
  neutral  : Bool
  deriving DecidableEq, Repr

/-! ## Interlock Unit (chapter 6) -/

/-- A value for each condition: the unit's copy of them. The values of the two latches are its last two fields. -/
structure Conds where
  linkUp          : Bool
  linkLost        : Bool
  assistActive    : Bool
  throttleNeutral : Bool
  steerSettled    : Bool
  winchMoving     : Bool
  hookStowed      : Bool
  tilted          : Bool
  levelReduced    : Bool
  levelLimp       : Bool
  tripActive      : Bool
  locateActive    : Bool
  latchA          : Bool
  latchB          : Bool
  deriving DecidableEq, Repr

structure Interlock where
  conds   : Conds
  /-- The gate results: whether each gate is closed (R112). -/
  closed  : Eight Bool
  targets : PerTarget TargetState
  deriving DecidableEq, Repr

/-! ## Steering Unit (chapter 7) -/

structure Steering where
  clock      : FrameClock
  /-- q_steer, as taken at the latest frame. -/
  q          : Nat
  mode       : Mode
  phase      : Phase
  waiting    : Option Mode
  timer      : Option Timer
  /-- When the running transition began, and the mode applied before it (R139). -/
  began      : Time
  modeBefore : Mode
  targetF    : Int
  targetR    : Int
  outF       : Int
  outR       : Int
  /-- The rear freeze; a HELD STEER_REAR without one was entered from RELEASED (R131). -/
  freeze     : Option Int
  /-- STEER_SETTLED (R134). -/
  settled    : Bool
  /-- The settle window in force since the latest frame (R134). -/
  settleUs   : Nat
  /-- The pulses emitted on SF and SR at the latest frame, if it was emitting. -/
  pulse      : Option (Int × Int)
  deriving DecidableEq, Repr

/-! ## Drive Output (chapter 8) -/

structure Drive where
  clock     : FrameClock
  q         : Nat
  fwdFreeze : Option Int
  revFreeze : Option Int
  gated     : Int
  dEff      : Int
  out       : Int
  /-- The pulse emitted on ESC at the latest frame; none before the first frame after a start (R144). -/
  pulse     : Option Int
  demand    : Nat
  deriving DecidableEq, Repr

/-! ## Winch Controller (chapter 9) -/

/-- An accepted job record (R170). `amount` is absent for HAUL_TO_STOW. -/
structure Job where
  kind    : JobKind
  amount  : Option Nat
  duty    : Nat
  timeout : Nat
  tag     : Nat
  deriving DecidableEq, Repr

/-- What a running job has beside its record. -/
structure JobRun where
  moved   : Nat
  timeout : Timer
  freeFor : Option Timer
  tension : Option Time
  deriving DecidableEq, Repr

/-- A winch freeze (R163): a duty, or *stopped*. -/
inductive WinchFreeze where
  | duty (u : Nat)
  | stopped
  deriving DecidableEq, Repr

structure Winch where
  clock        : FrameClock
  q            : Nat
  st           : WinchState
  /-- Commanded duty u, permille. -/
  duty         : Nat
  /-- Effective duty of the latest frame. -/
  eff          : Nat
  lastDir      : Direction
  /-- The queue, oldest first; its head is the running job while `running` is present. -/
  queue        : List Job
  running      : Option JobRun
  dwell        : Option Timer
  stallRun     : Option Time
  neutralRun   : Option Timer
  haulFreeze   : Option WinchFreeze
  payoutFreeze : Option WinchFreeze
  hookRun      : Option Timer
  /-- HOOK_STOWED (R166). -/
  stowed       : Bool
  demand       : Nat
  deriving DecidableEq, Repr

/-! ## Light Controller (chapter 10) -/

structure PatternStep where
  level : Nat
  /-- Duration, in units of 10 ms. -/
  units : Nat
  deriving DecidableEq, Repr

structure Pattern where
  steps : List PatternStep
  loop  : Bool
  deriving DecidableEq, Repr

/-- The freeze record of a channel under a HELD SCENE_LIGHTS (R191). -/
inductive LightFreeze where
  | dark
  | shown (source : Source) (index : Fin 8) (pattern : Pattern) (step : Nat)
  deriving DecidableEq, Repr

/-- What the controller holds for one channel. `source` is absent once a RELEASED SCENE_LIGHTS discarded it; `timer` is
absent on the shared blinker. -/
structure ChannelState where
  source  : Option Source
  pattern : Fin 8
  step    : Nat
  timer   : Option Timer
  ratio   : Nat
  freeze  : Option LightFreeze
  /-- Dark by one of the first five rows of R190. -/
  dark    : Bool
  level   : Nat
  deriving DecidableEq, Repr

/-- The shared blinker while it runs: its step of P2 (R186). -/
structure Blinker where
  step  : Nat
  timer : Timer
  deriving DecidableEq, Repr

structure Lights where
  chans         : Eight ChannelState
  blinker       : Option Blinker
  hazardAssist  : Bool
  hazardGesture : Bool
  turnL         : Bool
  turnR         : Bool
  /-- The HELD SCENE_LIGHTS was entered from RELEASED (R191). -/
  heldDark      : Bool
  tiltRun       : Option Timer
  /-- TILTED (R193). -/
  tilted        : Bool
  /-- The locate latch, LOCATE_ACTIVE (R194). -/
  locate        : Bool
  tiltArm       : Option Timer
  linkArm       : Option Timer
  signalDemand  : Nat
  sceneDemand   : Nat
  locatePart    : Nat
  deriving DecidableEq, Repr

/-! ## Assist Port and ALERT (chapters 11 and 12) -/

structure Assist where
  /-- The response slot (R204). -/
  slot       : List Byte
  /-- The bytes on the data output in the latest transaction. -/
  shifted    : List Byte
  /-- The request in progress: the bytes shifted in since chip select was asserted; none once it is released. -/
  inProgress : List Byte
  /-- The activity window, begun at the latest request taken; ASSIST_ACTIVE is that it runs (R206). -/
  window     : Option Timer
  deriving DecidableEq, Repr

/-! ## Settings -/

/-- Section 1.11. The protection mode is held as its byte code (R23). -/
structure PackSettings where
  rInit          : Nat
  capacityMah    : Nat
  reservePct     : Nat
  tripMa         : Nat
  tripMs         : Nat
  conserveMv     : Nat
  limpMv         : Nat
  cutoffMv       : Nat
  hystMv         : Nat
  absFloorMv     : Nat
  limpHomeS      : Nat
  protectionMode : Byte
  deriving DecidableEq, Repr

/-- Section 2.10. -/
structure BudgetSettings where
  floorMv       : Nat
  conserveRaise : Nat
  limpRaise     : Nat
  ceilingMa     : Nat
  reserve       : PerClass Nat
  driveFullMa   : Nat
  deriving DecidableEq, Repr

/-- Section 3.10. `cellCount` absent is AUTO. -/
structure SupplySettings where
  cellCount   : Option Nat
  samePackMv  : Nat
  trickle     : Bool
  parkIdleMin : Nat
  deriving DecidableEq, Repr

/-- A gesture term (section 4.5): a channel from 1 to 10, ABOVE or BELOW, a threshold. -/
structure GestureTerm where
  channel   : Nat
  above     : Bool
  threshold : Int
  deriving DecidableEq, Repr

structure GestureEntry where
  enabled : Bool
  terms   : List GestureTerm
  holdMs  : Nat
  action  : GestureAction
  deriving DecidableEq, Repr

/-- Section 4.7. A channel absent is NONE. -/
structure RadioSettings where
  channels       : PerFn (Option Nat)
  reversed       : PerFn Bool
  bands          : Bands
  modeLow        : Mode
  modeMid        : Mode
  modeHigh       : Mode
  failsafeMs     : Nat
  failsafeCentre : Bool
  gestures       : Four GestureEntry
  deriving DecidableEq, Repr

/-- Section 5.10. -/
structure AuthoritySettings where
  blendLimit    : Nat
  claimHoldMs   : Nat
  takeoverDelta : Nat
  lockoutMs     : Nat
  deriving DecidableEq, Repr

/-- A gate or latch term: a condition with a polarity (R112). -/
structure GateTerm where
  cond : Cond
  pol  : Bool
  deriving DecidableEq, Repr

/-- A gate entry (section 6.2). A target absent is NONE. -/
structure Gate where
  enabled : Bool
  target  : Option Target
  terms   : List GateTerm
  action  : GateAction
  deriving DecidableEq, Repr

/-- A latch entry (section 6.5). -/
structure Latch where
  set   : Option GateTerm
  reset : Option GateTerm
  deriving DecidableEq, Repr

/-- Section 6.8. -/
structure InterlockSettings where
  gates  : Eight Gate
  latchA : Latch
  latchB : Latch
  deriving DecidableEq, Repr

/-- The settings of one servo output (section 7.7). -/
structure ServoSettings where
  throw   : Nat
  trim    : Int
  endLow  : Int
  endHigh : Int
  rev     : Bool
  slew    : Nat
  deriving DecidableEq, Repr

/-- Section 7.7. -/
structure SteeringSettings where
  front               : ServoSettings
  rear                : ServoSettings
  rearRatio           : Nat
  framePeriodMs       : Nat
  settleUs            : Nat
  transitionTimeoutMs : Nat
  deriving DecidableEq, Repr

/-- Section 8.7. -/
structure DriveSettings where
  throw        : Nat
  trim         : Int
  endLow       : Int
  endHigh      : Int
  rev          : Bool
  escFrameMs   : Nat
  ramp         : Nat
  limpDrivePct : Nat
  deriving DecidableEq, Repr

/-- Section 9.12. -/
structure WinchSettings where
  maxPayout    : Nat
  stallMa      : Nat
  stallMs      : Nat
  limpWinchPct : Nat
  winchLimitMa : Nat
  deriving DecidableEq, Repr

/-- A channel entry (R181). -/
structure ChannelEntry where
  role       : Role
  cls        : LightClass
  nominalMa  : Nat
  brightness : Nat
  locate     : Bool
  deriving DecidableEq, Repr

/-- Section 10.9. P0 and P1 are fixed and are not settings; a scene assignment absent is AUTO. -/
structure LightSettings where
  channels      : Eight ChannelEntry
  p2            : Pattern
  p3            : Pattern
  p4            : Pattern
  p5            : Pattern
  p6            : Pattern
  p7            : Pattern
  scenes        : Four (Eight (Option (Fin 8)))
  locatePattern : Fin 8
  turnThreshold : Nat
  winchHazard   : Bool
  deriving DecidableEq, Repr

/-- alert_mask (R201). -/
structure AlertMask where
  info  : Bool
  warn  : Bool
  fault : Bool
  deriving DecidableEq, Repr

/-- Every setting of the part, chapter by chapter. -/
structure Settings where
  pack      : PackSettings
  budget    : BudgetSettings
  supply    : SupplySettings
  radio     : RadioSettings
  authority : AuthoritySettings
  interlock : InterlockSettings
  steering  : SteeringSettings
  drive     : DriveSettings
  winch     : WinchSettings
  lights    : LightSettings
  alertMask : AlertMask
  deriving DecidableEq, Repr

/-- The Settings Store (section 12.3): the working copy, the non-volatile store with its check, and the commit. -/
structure Store where
  working : Settings
  /-- The committed image, and whether the store's check holds over it (R210). -/
  image   : Settings
  checkOk : Bool
  commit  : CommitState
  /-- The image being written and the time its write takes (R209). -/
  writing : Option (Settings × Timer)
  deriving DecidableEq, Repr

end Sys2Proof.Machine
end

