-- ==== Sys2Proof/Machine/Arith.lean ====
section
/-! DEFINITION. The arithmetic of section 0.5: limiting, division toward zero, ratios, 16-bit saturation, and elapsed time on
the wrapping run-time counter. -/
namespace Sys2Proof.Machine

/-- `v` limited to `lo`..`hi`. -/
def clampI (lo hi v : Int) : Int := if v < lo then lo else if hi < v then hi else v

/-- `v` limited to `lo`..`hi`. -/
def clampN (lo hi v : Nat) : Nat := if v < lo then lo else if hi < v then hi else v

/-- The quotient truncated toward zero, whatever the signs (section 0.5). -/
def divZ (a b : Int) : Int := Int.tdiv a b

/-- A measurement as R1 takes it: 0 to 65,535. -/
def taken16 (v : Int) : Nat := (clampI 0 65535 v).toNat

/-- A data field of a record: a quantity larger than 65,535 carries 65,535 (R198). -/
def half (n : Nat) : Half := BitVec.ofNat 16 (if n ≤ 65535 then n else 65535)

/-- The time from `start` to `now`, modulo 2^32 (R2, R55). -/
def elapsed (now start : Time) : Nat := (now - start).toNat

/-- A timer that begins now. -/
def timerAt (now : Time) (dur : Nat) : Timer := { start := now, dur := dur }

/-- The timer has run its time. -/
def Timer.due (t : Timer) (now : Time) : Bool := t.dur ≤ elapsed now t.start

/-- The time left to a timer's expiry, 0 once it is due. -/
def Timer.remaining (t : Timer) (now : Time) : Nat := t.dur - elapsed now t.start

/-- A timer that runs and has run its time. -/
def dueAt (t : Option Timer) (now : Time) : Bool :=
  match t with
  | some x => x.due now
  | none => false

/-- The clock's next fall has come. -/
def FrameClock.due (c : FrameClock) (now : Time) : Bool := c.period ≤ elapsed now c.last

/-- The clock falls: one period after its last fall, with the period from here on (R127, R144). -/
def FrameClock.fall (c : FrameClock) (period : Nat) : FrameClock :=
  { last := c.last + BitVec.ofNat 32 c.period, period := period }

/-- The worse of two levels. -/
def Level.worst (a b : Level) : Level :=
  match a, b with
  | .cutoff, _ | _, .cutoff => .cutoff
  | .limp, _ | _, .limp => .limp
  | .conserve, _ | _, .conserve => .conserve
  | .normal, .normal => .normal

/-- `a` is worse than `b`. -/
def Level.worse (a b : Level) : Bool :=
  match a, b with
  | .conserve, .normal | .limp, .normal | .limp, .conserve | .cutoff, .normal | .cutoff, .conserve | .cutoff, .limp => true
  | _, _ => false

/-- The value scaled by a ratio: multiplied by it and divided by 256, floor (section 0.5). -/
def scale (v q : Nat) : Nat := v * q / 256

/-- used_mAh: the accumulator in mA·ms over 3,600,000, floor (R10). -/
def usedMahOf (energy : Nat) : Nat := energy / 3600000

/-- remaining_pct, no value while capacity_mah is 0 (R10). -/
def remainingPctOf (capacity used : Nat) : Option Nat :=
  if capacity = 0 then none else some (100 - used * 100 / capacity)

end Sys2Proof.Machine
end

