-- ==== Sys2Proof/Machine/Codes.lean ====
section
/-! DEFINITION. The position of every enumerated value in the list that defines it (R212), reading a value back from its
position, and the fixed severity and source of each kind of record (R199). -/
namespace Sys2Proof.Machine

/-! ## Reading the small tables -/

def Eight.get {α : Type} (t : Eight α) : Fin 8 → α
  | 0 => t.e0
  | 1 => t.e1
  | 2 => t.e2
  | 3 => t.e3
  | 4 => t.e4
  | 5 => t.e5
  | 6 => t.e6
  | 7 => t.e7

def Eight.set {α : Type} (t : Eight α) (i : Fin 8) (a : α) : Eight α :=
  match i with
  | 0 => { t with e0 := a }
  | 1 => { t with e1 := a }
  | 2 => { t with e2 := a }
  | 3 => { t with e3 := a }
  | 4 => { t with e4 := a }
  | 5 => { t with e5 := a }
  | 6 => { t with e6 := a }
  | 7 => { t with e7 := a }

/-- The table of `f` at each index. -/
def Eight.tabulate {α : Type} (f : Fin 8 → α) : Eight α :=
  { e0 := f 0, e1 := f 1, e2 := f 2, e3 := f 3, e4 := f 4, e5 := f 5, e6 := f 6, e7 := f 7 }

def Eight.map {α β : Type} (f : α → β) (t : Eight α) : Eight β :=
  { e0 := f t.e0, e1 := f t.e1, e2 := f t.e2, e3 := f t.e3, e4 := f t.e4, e5 := f t.e5, e6 := f t.e6, e7 := f t.e7 }

def Eight.toList {α : Type} (t : Eight α) : List α := [t.e0, t.e1, t.e2, t.e3, t.e4, t.e5, t.e6, t.e7]

def Four.get {α : Type} (t : Four α) : Fin 4 → α
  | 0 => t.e0
  | 1 => t.e1
  | 2 => t.e2
  | 3 => t.e3

def Four.set {α : Type} (t : Four α) (i : Fin 4) (a : α) : Four α :=
  match i with
  | 0 => { t with e0 := a }
  | 1 => { t with e1 := a }
  | 2 => { t with e2 := a }
  | 3 => { t with e3 := a }

def Four.map {α β : Type} (f : α → β) (t : Four α) : Four β :=
  { e0 := f t.e0, e1 := f t.e1, e2 := f t.e2, e3 := f t.e3 }

def PerFn.get {α : Type} (t : PerFn α) : Fn → α
  | .throttle => t.throttle
  | .steer => t.steer
  | .steerMode => t.steerMode
  | .winch => t.winch
  | .lights => t.lights

def PerFn.set {α : Type} (t : PerFn α) (f : Fn) (a : α) : PerFn α :=
  match f with
  | .throttle => { t with throttle := a }
  | .steer => { t with steer := a }
  | .steerMode => { t with steerMode := a }
  | .winch => { t with winch := a }
  | .lights => { t with lights := a }

def PerTarget.get {α : Type} (t : PerTarget α) : Target → α
  | .driveFwd => t.driveFwd
  | .driveRev => t.driveRev
  | .steerRear => t.steerRear
  | .modeChange => t.modeChange
  | .winchHaul => t.winchHaul
  | .winchPayout => t.winchPayout
  | .sceneLights => t.sceneLights

def PerTarget.tabulate {α : Type} (f : Target → α) : PerTarget α :=
  { driveFwd := f .driveFwd, driveRev := f .driveRev, steerRear := f .steerRear, modeChange := f .modeChange,
    winchHaul := f .winchHaul, winchPayout := f .winchPayout, sceneLights := f .sceneLights }

/-! ## The functions, targets and conditions, in their orders -/

/-- The function order (R105). -/
def allFns : List Fn := [.throttle, .steer, .steerMode, .winch, .lights]

/-- The order of R117. -/
def allTargets : List Target :=
  [.driveFwd, .driveRev, .steerRear, .modeChange, .winchHaul, .winchPayout, .sceneLights]

/-! ## Positions of enumerated values (R212) -/

def fnCode : Fn → Nat
  | .throttle => 0
  | .steer => 1
  | .steerMode => 2
  | .winch => 3
  | .lights => 4

def fnOfCode : Nat → Option Fn
  | 0 => some .throttle
  | 1 => some .steer
  | 2 => some .steerMode
  | 3 => some .winch
  | 4 => some .lights
  | _ => none

def Level.code : Level → Nat
  | .normal => 0
  | .conserve => 1
  | .limp => 2
  | .cutoff => 3

def SupplyState.code : SupplyState → Nat
  | .retain => 0
  | .qualify => 1
  | .active => 2
  | .park => 3

def StartCause.code : StartCause → Nat
  | .coldStart => 0
  | .packStart => 1
  | .restartReq => 2

def LinkState.code : LinkState → Nat
  | .noLink => 0
  | .rearm => 1
  | .up => 2
  | .holding => 3
  | .lost => 4

def Mode.code : Mode → Nat
  | .front => 0
  | .rear => 1
  | .counter => 2
  | .crab => 3

def modeOfCode : Nat → Option Mode
  | 0 => some .front
  | 1 => some .rear
  | 2 => some .counter
  | 3 => some .crab
  | _ => none

def GestureAction.code : GestureAction → Nat
  | .limpHome => 0
  | .ackLocate => 1
  | .winchFree => 2
  | .winchClear => 3
  | .park => 4
  | .modeNext => 5
  | .hazardToggle => 6

def gestureActionOfCode : Nat → Option GestureAction
  | 0 => some .limpHome
  | 1 => some .ackLocate
  | 2 => some .winchFree
  | 3 => some .winchClear
  | 4 => some .park
  | 5 => some .modeNext
  | 6 => some .hazardToggle
  | _ => none

def TelemKind.code : TelemKind → Nat
  | .pack => 0
  | .energy => 1
  | .winch => 2
  | .notice => 3

/-- The rotation advances by one, from NOTICE back to PACK (R83). -/
def TelemKind.next : TelemKind → TelemKind
  | .pack => .energy
  | .energy => .winch
  | .winch => .notice
  | .notice => .pack

def ClaimKind.code : ClaimKind → Nat
  | .full => 0
  | .blend => 1
  | .cap => 2

def claimKindOfCode : Nat → Option ClaimKind
  | 0 => some .full
  | 1 => some .blend
  | 2 => some .cap
  | _ => none

def ClaimEnd.code : ClaimEnd → Nat
  | .expired => 0
  | .released => 1
  | .takeover => 2
  | .link => 3
  | .park => 4

def Cond.code : Cond → Nat
  | .linkUp => 0
  | .linkLost => 1
  | .assistActive => 2
  | .throttleNeutral => 3
  | .steerSettled => 4
  | .winchMoving => 5
  | .hookStowed => 6
  | .tilted => 7
  | .levelReduced => 8
  | .levelLimp => 9
  | .tripActive => 10
  | .locateActive => 11
  | .latchA => 12
  | .latchB => 13

def condOfCode : Nat → Option Cond
  | 0 => some .linkUp
  | 1 => some .linkLost
  | 2 => some .assistActive
  | 3 => some .throttleNeutral
  | 4 => some .steerSettled
  | 5 => some .winchMoving
  | 6 => some .hookStowed
  | 7 => some .tilted
  | 8 => some .levelReduced
  | 9 => some .levelLimp
  | 10 => some .tripActive
  | 11 => some .locateActive
  | 12 => some .latchA
  | 13 => some .latchB
  | _ => none

def Target.code : Target → Nat
  | .driveFwd => 0
  | .driveRev => 1
  | .steerRear => 2
  | .modeChange => 3
  | .winchHaul => 4
  | .winchPayout => 5
  | .sceneLights => 6

def targetOfCode : Nat → Option Target
  | 0 => some .driveFwd
  | 1 => some .driveRev
  | 2 => some .steerRear
  | 3 => some .modeChange
  | 4 => some .winchHaul
  | 5 => some .winchPayout
  | 6 => some .sceneLights
  | _ => none

def TargetState.code : TargetState → Nat
  | .opened => 0
  | .held => 1
  | .released => 2

def GateAction.code : GateAction → Nat
  | .release => 0
  | .hold => 1

def gateActionOfCode : Nat → Option GateAction
  | 0 => some .release
  | 1 => some .hold
  | _ => none

def WinchState.code : WinchState → Nat
  | .idle => 0
  | .hauling => 1
  | .payingOut => 2
  | .stopping => 3
  | .free => 4
  | .stalled => 5

def jobKindOfCode : Nat → Option JobKind
  | 0 => some .haulBy
  | 1 => some .payoutBy
  | 2 => some .haulToTension
  | 3 => some .haulToStow
  | 4 => some .freeFor
  | _ => none

/-- DESIGN CHOICE (log entry 20): no one list defines the outcomes; the order is that of the tables of R172, R174 and
R175. -/
def JobOutcome.code : JobOutcome → Nat
  | .done => 0
  | .stowed => 1
  | .limit => 2
  | .timeout => 3
  | .stalled => 4
  | .aborted => 5

def Role.code : Role → Nat
  | .head => 0
  | .tail => 1
  | .brake => 2
  | .reverse => 3
  | .turnL => 4
  | .turnR => 5
  | .rock => 6
  | .bar => 7
  | .beacon => 8

def roleOfCode : Nat → Option Role
  | 0 => some .head
  | 1 => some .tail
  | 2 => some .brake
  | 3 => some .reverse
  | 4 => some .turnL
  | 5 => some .turnR
  | 6 => some .rock
  | 7 => some .bar
  | 8 => some .beacon
  | _ => none

def LightClass.code : LightClass → Nat
  | .signal => 0
  | .scene => 1

def lightClassOfCode : Nat → Option LightClass
  | 0 => some .signal
  | 1 => some .scene
  | _ => none

def LocateCause.code : LocateCause → Nat
  | .cutoff => 0
  | .tilt => 1
  | .link => 2

def Origin.code : Origin → Nat
  | .request => 0
  | .gesture => 1

def WakeSource.code : WakeSource → Nat
  | .frame => 0
  | .gesture => 1
  | .assist => 2
  | .hook => 3
  | .tilt => 4

def ParkSource.code : ParkSource → Nat
  | .request => 0
  | .gesture => 1
  | .idle => 2

def LevelCause.code : LevelCause → Nat
  | .floor => 0
  | .limpHome => 1
  | .voltage => 2
  | .energy => 3
  | .trip => 4

def QualifyReason.code : QualifyReason → Nat
  | .low => 0
  | .high => 1
  | .unstable => 2

def CommitState.code : CommitState → Nat
  | .idle => 0
  | .writing => 1
  | .done => 2
  | .failed => 3

/-- Statuses are encoded from 0 in the order of section 12.2. -/
def Status.code : Status → Nat
  | .ok => 0
  | .okClamped => 1
  | .busy => 2
  | .invalid => 3
  | .unknown => 4
  | .refused => 5
  | .lockedOut => 6
  | .notHeld => 7
  | .queueFull => 8
  | .used => 9
  | .lowReserve => 10
  | .empty => 11

def Severity.code : Severity → Nat
  | .info => 0
  | .warn => 1
  | .fault => 2

def Block.code : Block → Nat
  | .packMonitor => 0
  | .protection => 1
  | .budget => 2
  | .supply => 3
  | .retention => 4
  | .radio => 5
  | .authority => 6
  | .interlock => 7
  | .steering => 8
  | .drive => 9
  | .winch => 10
  | .lights => 11
  | .eventLog => 12
  | .assistPort => 13
  | .settingsStore => 14

/-- Log kinds are counted from 1 in the order of R199 (R212). -/
def LogKind.code : LogKind → Nat
  | .start => 1
  | .packTaken => 2
  | .packRemoved => 3
  | .qualifyFail => 4
  | .backupLow => 5
  | .railFault => 6
  | .parkEnter => 7
  | .parkWake => 8
  | .levelChange => 9
  | .trip => 10
  | .limpHomeGranted => 11
  | .linkState => 12
  | .gesture => 13
  | .claimEnd => 14
  | .targetReleased => 15
  | .modeApplied => 16
  | .modeForced => 17
  | .modeDropped => 18
  | .winchStall => 19
  | .hookSeated => 20
  | .payoutLimit => 21
  | .winchJobEnd => 22
  | .queueFlushed => 23
  | .locateArmed => 24
  | .locateAck => 25
  | .settingGuard => 26
  | .commitEnd => 27

/-- The severity of a kind (R199). -/
def LogKind.severity : LogKind → Severity
  | .start => .info
  | .packTaken => .info
  | .packRemoved => .info
  | .qualifyFail => .warn
  | .backupLow => .warn
  | .railFault => .fault
  | .parkEnter => .info
  | .parkWake => .info
  | .levelChange => .warn
  | .trip => .warn
  | .limpHomeGranted => .warn
  | .linkState => .info
  | .gesture => .info
  | .claimEnd => .info
  | .targetReleased => .info
  | .modeApplied => .info
  | .modeForced => .warn
  | .modeDropped => .info
  | .winchStall => .fault
  | .hookSeated => .info
  | .payoutLimit => .warn
  | .winchJobEnd => .info
  | .queueFlushed => .warn
  | .locateArmed => .warn
  | .locateAck => .info
  | .settingGuard => .fault
  | .commitEnd => .info

/-- The source block of a kind (R199). -/
def LogKind.source : LogKind → Block
  | .start | .packTaken | .packRemoved | .qualifyFail | .backupLow | .railFault | .parkEnter | .parkWake => .supply
  | .levelChange => .protection
  | .trip => .packMonitor
  | .limpHomeGranted => .protection
  | .linkState | .gesture => .radio
  | .claimEnd => .authority
  | .targetReleased => .interlock
  | .modeApplied | .modeForced | .modeDropped => .steering
  | .winchStall | .hookSeated | .payoutLimit | .winchJobEnd | .queueFlushed => .winch
  | .locateArmed | .locateAck => .lights
  | .settingGuard | .commitEnd => .settingsStore

end Sys2Proof.Machine
end

