-- ==== Sys2Proof/Machine/Factory.lean ====
section
/-! DEFINITION. The factory value of every setting, from the settings table that closes each chapter (and R124), and the two
fixed light patterns (R182). -/
namespace Sys2Proof.Machine

/-- The code of protection mode ACTIVE (R23). -/
def codeActive : Byte := 0x3C
/-- The code of protection mode BENCH (R23). -/
def codeBench : Byte := 0xC3

/-- Section 1.11. -/
def factoryPack : PackSettings :=
  { rInit := 30, capacityMah := 2200, reservePct := 20, tripMa := 45000, tripMs := 200, conserveMv := 3500,
    limpMv := 3400, cutoffMv := 3250, hystMv := 80, absFloorMv := 3000, limpHomeS := 60, protectionMode := codeActive }

/-- Section 2.10. -/
def factoryBudget : BudgetSettings :=
  { floorMv := 3300, conserveRaise := 100, limpRaise := 200, ceilingMa := 60000,
    reserve := { steer := 2000, signal := 300, drive := 5000, winch := 2000, scene := 0 }, driveFullMa := 35000 }

/-- Section 3.10. -/
def factorySupply : SupplySettings :=
  { cellCount := none, samePackMv := 25, trickle := true, parkIdleMin := 10 }

/-- The factory gesture table (section 4.7). -/
def factoryGestures : Four GestureEntry :=
  { e0 := { enabled := true, terms := [⟨2, false, -900⟩, ⟨1, false, -900⟩], holdMs := 3000, action := .limpHome }
    e1 := { enabled := true, terms := [⟨1, true, 900⟩, ⟨5, false, -900⟩], holdMs := 2000, action := .ackLocate }
    e2 := { enabled := true, terms := [⟨1, false, -900⟩, ⟨5, true, 900⟩], holdMs := 2000, action := .winchFree }
    e3 := { enabled := false, terms := [], holdMs := 1000, action := .modeNext } }

/-- Section 4.7. -/
def factoryRadio : RadioSettings :=
  { channels := { throttle := some 2, steer := some 1, steerMode := some 3, winch := some 4, lights := some 5 }
    reversed := { throttle := false, steer := false, steerMode := false, winch := false, lights := false }
    bands := { throttle := 40, steer := 40, winch := 40 }
    modeLow := .front, modeMid := .counter, modeHigh := .crab
    failsafeMs := 250, failsafeCentre := true, gestures := factoryGestures }

/-- Section 5.10. -/
def factoryAuthority : AuthoritySettings :=
  { blendLimit := 200, claimHoldMs := 300, takeoverDelta := 250, lockoutMs := 2000 }

/-- A gate that names no target (R124: gate_2 to gate_7). -/
def factoryIdleGate : Gate := { enabled := false, target := none, terms := [], action := .hold }

/-- The factory gate table and latches (R124). -/
def factoryInterlock : InterlockSettings :=
  { gates :=
      { e0 := { enabled := true, target := some .modeChange,
                terms := [⟨.winchMoving, false⟩, ⟨.throttleNeutral, true⟩], action := .hold }
        e1 := { enabled := true, target := some .driveFwd, terms := [⟨.tilted, false⟩], action := .release }
        e2 := factoryIdleGate, e3 := factoryIdleGate, e4 := factoryIdleGate, e5 := factoryIdleGate
        e6 := factoryIdleGate, e7 := factoryIdleGate }
    latchA := { set := none, reset := none }
    latchB := { set := none, reset := none } }

/-- One servo output at its factory settings (section 7.7). -/
def factoryServo : ServoSettings :=
  { throw := 400, trim := 0, endLow := 1000, endHigh := 2000, rev := false, slew := 40 }

/-- Section 7.7. -/
def factorySteering : SteeringSettings :=
  { front := factoryServo, rear := factoryServo, rearRatio := 100, framePeriodMs := 20, settleUs := 8,
    transitionTimeoutMs := 2000 }

/-- Section 8.7. -/
def factoryDrive : DriveSettings :=
  { throw := 500, trim := 0, endLow := 1000, endHigh := 2000, rev := false, escFrameMs := 20, ramp := 0,
    limpDrivePct := 40 }

/-- Section 9.12. -/
def factoryWinch : WinchSettings :=
  { maxPayout := 8000, stallMa := 6000, stallMs := 500, limpWinchPct := 50, winchLimitMa := 8000 }

/-- P0, STEADY (R182). -/
def patternSteady : Pattern := { steps := [⟨255, 10⟩], loop := true }
/-- P1, DARK (R182). -/
def patternDark : Pattern := { steps := [⟨0, 10⟩], loop := true }

/-- The factory channel table (section 10.9). -/
def factoryChannels : Eight ChannelEntry :=
  { e0 := ⟨.head, .signal, 300, 255, false⟩
    e1 := ⟨.tail, .signal, 60, 160, false⟩
    e2 := ⟨.brake, .signal, 120, 255, false⟩
    e3 := ⟨.reverse, .signal, 120, 255, false⟩
    e4 := ⟨.turnL, .signal, 80, 255, false⟩
    e5 := ⟨.turnR, .signal, 80, 255, false⟩
    e6 := ⟨.rock, .scene, 1200, 255, false⟩
    e7 := ⟨.beacon, .signal, 400, 255, true⟩ }

/-- The factory scenes (section 10.9). -/
def factoryScenes : Four (Eight (Option (Fin 8))) :=
  { e0 := ⟨some 1, some 1, none, none, none, none, some 1, none⟩
    e1 := ⟨none, none, none, none, none, none, some 1, none⟩
    e2 := ⟨none, none, none, none, none, none, none, none⟩
    e3 := ⟨some 4, some 4, none, none, none, none, some 5, some 7⟩ }

/-- Section 10.9; durations in units of 10 ms. -/
def factoryLights : LightSettings :=
  { channels := factoryChannels
    p2 := { steps := [⟨255, 50⟩, ⟨0, 50⟩], loop := true }
    p3 := { steps := [⟨255, 6⟩, ⟨0, 6⟩, ⟨255, 6⟩, ⟨0, 132⟩], loop := true }
    p4 := { steps := [⟨64, 10⟩, ⟨128, 10⟩, ⟨192, 10⟩, ⟨255, 10⟩, ⟨192, 10⟩, ⟨128, 10⟩], loop := true }
    p5 := { steps := [⟨255, 3⟩, ⟨0, 7⟩], loop := true }
    p6 := { steps := [⟨64, 15⟩, ⟨128, 15⟩, ⟨192, 15⟩, ⟨255, 15⟩], loop := false }
    p7 := { steps := [⟨255, 100⟩, ⟨0, 100⟩], loop := true }
    scenes := factoryScenes
    locatePattern := 3, turnThreshold := 600, winchHazard := true }

/-- The factory value of alert_mask: WARN and FAULT (R201). -/
def factoryAlertMask : AlertMask := { info := false, warn := true, fault := true }

/-- Every setting at its factory value. -/
def factorySettings : Settings :=
  { pack := factoryPack, budget := factoryBudget, supply := factorySupply, radio := factoryRadio,
    authority := factoryAuthority, interlock := factoryInterlock, steering := factorySteering, drive := factoryDrive,
    winch := factoryWinch, lights := factoryLights, alertMask := factoryAlertMask }

end Sys2Proof.Machine
end

