-- ==== Sys2Proof/Machine/StartValues.lean ====
section
/-! DEFINITION. What each block holds at a start, from the working copy loaded then, the identity kept by the Retention Domain
and the time of the start: the "State at each start" rules of every chapter (R24, R46, R69, R89, R108, R111, R142, R153, R179,
R196, R204). -/
namespace Sys2Proof.Machine

/-- The level standing from a start: the voltage level and trip-LIMP of the identity present, or NORMAL and none, with the
energy level NORMAL (R24). -/
def startLevel (identity : Option Identity) : Level :=
  match identity with
  | some i => Level.worst i.level (if i.tripLimp.isSome then .limp else .normal)
  | none => .normal

/-- The cell count while no set has been taken: that of the stored identity, or 0 (R25, R28). -/
def identityCells (identity : Option Identity) : Nat :=
  match identity with
  | some i => i.cells
  | none => 0

/-- No complete set yet: V_meas, I_meas, V_comp and V_cell are 0 (R25). -/
def noSet (now : Time) : SampleSet :=
  { time := now, vMeas := 0, iMeas := 0, iServo := 0, iWinch := 0, vComp := 0, vCell := 0 }

/-- The Pack Monitor at a start (R24); used_mAh and remaining_pct are derived from the accumulator held (log entry 17). -/
def startMonitor (w : Settings) (identity : Option Identity) (now : Time) : Monitor :=
  let used := usedMahOf (match identity with | some i => i.energy | none => 0)
  { clock := { last := now, period := 2 }, latest := noSet now, prev := none, servo := [], usedMah := used,
    remainingPct := remainingPctOf w.pack.capacityMah used, tripRun := none, tripHold := none }

/-- The Protection Controller at a start (R24). That the mode in force from a start until the first set in ACTIVE or PARK is
ACTIVE, so that a loaded BENCH takes effect anew on that set, is DESIGN CHOICE (log entry 36). -/
def startProtection (identity : Option Identity) : Protection :=
  { conserveT := .stopped, limpT := .stopped, cutoffT := .stopped, rising := none, floorT := none, bench := false,
    energy := .normal, effective := startLevel identity }

/-- Demand and grant 0, ratio 256 (R46). -/
def startShare : ClassShare := { demand := 0, grant := 0, ratio := 256 }

/-- The initial record (R46). -/
def startAllotment (identity : Option Identity) (now : Time) : Allotment :=
  { time := now, supply := .qualify, level := startLevel identity, cells := identityCells identity, vComp := 0,
    vFloor := 0, headroom := 0, tripFixed := false,
    classes := { steer := startShare, signal := startShare, drive := startShare, winch := startShare,
                 scene := startShare } }

/-- The Supply Controller at a start (R69): QUALIFY, with an open qualification. -/
def startSupply (afterRestart : Bool) (now : Time) : Supply :=
  { state := .qualify, window := none, marks := { low := false, high := false, unstable := false },
    afterRestart := afterRestart, rail := .off, railWait := none, backupClock := { last := now, period := 100 },
    backupMv := none, backupReady := false, backupArmed := false, trickle := false, idle := none, hookLatch := false,
    tiltLatch := false, parkModePos := .mid, parkLightsPos := .mid, attachWaiting := none }

/-- The driver values of NO_LINK (R80). -/
def startDriver (w : Settings) : DriverValues :=
  { throttle := 0, steer := 0, winch := 0, mode := w.radio.modeMid, modePos := .mid, scene := 1, lightsPos := .mid }

/-- The Radio Link Port at a start (R89). -/
def startRadio (w : Settings) : Radio :=
  { link := .noLink, hold := none, failsafe := none, last := none, driver := startDriver w, override := none,
    bands := w.radio.bands, gestures := { e0 := .clear, e1 := .clear, e2 := .clear, e3 := .clear }, rotation := .pack,
    slot := none, reply := [] }

/-- Under DRIVER, with no lockout. -/
def freeEntry : Entry := { claim := none, lockout := none }

/-- The Authority Table at a start (R108). -/
def startAuthority (w : Settings) : Authority :=
  { entries := { throttle := freeEntry, steer := freeEntry, steerMode := freeEntry, winch := freeEntry,
                 lights := freeEntry }
    commands := { throttle := 0, steer := 0, mode := w.radio.modeMid, winch := 0, scene := 1 }
    neutral := true }

/-- The condition values at every start (R111). -/
def startConds (level : Level) : Conds :=
  { linkUp := false, linkLost := false, assistActive := false, throttleNeutral := true, steerSettled := true,
    winchMoving := false, hookStowed := false, tilted := false, levelReduced := level.worse .normal,
    levelLimp := level.worse .conserve, tripActive := false, locateActive := false, latchA := false, latchB := false }

/-- The Interlock Unit at a start before it derives anything: every gate open and every target OPEN (R125). -/
def startInterlock (level : Level) : Interlock :=
  { conds := startConds level
    closed := Eight.tabulate (fun _ => false)
    targets := PerTarget.tabulate (fun _ => .opened) }

/-- 1500 + trim of an output, limited to its endpoints (R131, R142). -/
def servoCentre (v : ServoSettings) : Int := clampI v.endLow v.endHigh (1500 + v.trim)

/-- The Steering Unit at a start (R142). The q_steer before the first frame is DESIGN CHOICE (log entry 9). -/
def startSteering (w : Settings) (now : Time) : Steering :=
  { clock := { last := now, period := w.steering.framePeriodMs }, q := 256, mode := .front, phase := .steady,
    waiting := none, timer := none, began := now, modeBefore := .front,
    targetF := servoCentre w.steering.front, targetR := servoCentre w.steering.rear,
    outF := servoCentre w.steering.front, outR := servoCentre w.steering.rear, freeze := none, settled := true,
    settleUs := w.steering.settleUs, pulse := none }

/-- The neutral ESC pulse: 1500 + trim_d, limited to the endpoints (R149). -/
def escNeutral (v : DriveSettings) : Int := clampI v.endLow v.endHigh (1500 + v.trim)

/-- The Drive Output at a start (R153). The q_drive before the first frame is DESIGN CHOICE (log entry 9). -/
def startDrive (w : Settings) (now : Time) : Drive :=
  { clock := { last := now, period := w.drive.escFrameMs }, q := 256, fwdFreeze := none, revFreeze := none, gated := 0,
    dEff := 0, out := escNeutral w.drive, pulse := none, demand := 0 }

/-- The Winch Controller at a start (R179). The HOOK stage starts its debounce on the level the pin then has (R166). The q_winch
before the first frame and the commanded duty 0 are DESIGN CHOICE (log entry 9). -/
def startWinch (now : Time) : Winch :=
  { clock := { last := now, period := 10 }, q := 256, st := .idle, duty := 0, eff := 0, lastDir := .payout, queue := [],
    running := none, dwell := none, stallRun := none, neutralRun := none, haulFreeze := none, payoutFreeze := none,
    hookRun := some (timerAt now 20), stowed := false, demand := 0 }

/-- A light channel whose source is yet to be decided. -/
def blankChannel : ChannelState :=
  { source := none, pattern := 0, step := 0, timer := none, ratio := 256, freeze := none, dark := true, level := 0 }

/-- The Light Controller at a start, before the sources are decided (R196). The TILT stage starts its debounce on the level
the pin then has (R193). -/
def startLights (now : Time) : Lights :=
  { chans := Eight.tabulate (fun _ => blankChannel), blinker := none, hazardAssist := false, hazardGesture := false,
    turnL := false, turnR := false, heldDark := false, tiltRun := some (timerAt now 200), tilted := false,
    locate := false, tiltArm := none, linkArm := none, signalDemand := 0, sceneDemand := 0, locatePart := 0 }

/-- The START response: status OK, code START, one data byte with the cause of the start (R204). -/
def startResponse (cause : StartCause) : List Byte := [0x00, 0x00, 0x01, BitVec.ofNat 8 cause.code]

/-- The Assist Port at a start (R204, R206). -/
def startAssist (cause : StartCause) : Assist :=
  { slot := startResponse cause, shifted := [], inProgress := [], window := none }

end Sys2Proof.Machine
end

