-- ==== Sys2Proof/Machine/State.lean ====
section
/-! DEFINITION. The whole state of the part, the ways a step can stop, and the state right after reset. -/
namespace Sys2Proof.Machine

/-- Everything the manual gives the part, block by block, and the queue of commands that wait. -/
structure State where
  retention  : Retention
  pins       : Pins
  supply     : Supply
  monitor    : Monitor
  protection : Protection
  /-- The published allotment. -/
  budget     : Allotment
  radio      : Radio
  authority  : Authority
  interlock  : Interlock
  steering   : Steering
  drive      : Drive
  winch      : Winch
  lights     : Lights
  assist     : Assist
  store      : Store
  /-- ALERT is asserted (R201); meaningless in RETAIN, where the line is not driven. -/
  alert      : Bool
  /-- The commands that wait, first in first out. The model's own: the part has no such queue. -/
  pending    : List Instr
  deriving DecidableEq, Repr

/-- The part has no fault stop: every command the manual lists has an effect in every state, so no meaning raises one. -/
inductive Fault where
  deriving DecidableEq, Repr

/-- Why a command is refused. -/
inductive Refusal where
  /-- The command has no meaning in the model. No arm of `exec` raises it. Safe: the model stops where the part goes on. -/
  | notModelled (mnemonic : String)
  deriving DecidableEq, Repr

/-- A light channel at step 0 of a pattern whose first step lasts 100 ms, dark in QUALIFY, at time 0 (R196). -/
def resetChannel (source : Source) (pattern : Fin 8) : ChannelState :=
  { source := some source, pattern := pattern, step := 0, timer := some (timerAt 0 100), ratio := 256, freeze := none,
    dark := true, level := 0 }

/-- The part right after a cold start at factory settings, the one start that finds nothing kept (R51, R69). The part has no
reset pin; its "State at each start" rules are what reset is here (log entry 1). -/
def State.reset : State :=
  { retention :=
      { valid := true, counter := 0, identity := none, flags := { cold := true, pack := false, restart := false }
        log := { ring := [{ time := 0, kind := .start, data := [half StartCause.coldStart.code] }], unread := 1,
                 overwritten := false }
        lineCount := 0 }
    pins := { srvPg := false, hook := false, tilt := false }
    supply := startSupply false 0
    monitor := startMonitor factorySettings none 0
    protection := startProtection none
    budget := startAllotment none 0
    radio := startRadio factorySettings
    authority := startAuthority factorySettings
    interlock := startInterlock .normal
    steering := startSteering factorySettings 0
    drive := startDrive factorySettings 0
    winch := startWinch 0
    lights :=
      { startLights 0 with
        chans := { e0 := resetChannel .scene 0, e1 := resetChannel .scene 0, e2 := resetChannel .brake 0,
                   e3 := resetChannel .scene 1, e4 := resetChannel .scene 1, e5 := resetChannel .scene 1,
                   e6 := resetChannel .scene 1, e7 := resetChannel .scene 1 } }
    assist := startAssist .coldStart
    store := { working := factorySettings, image := factorySettings, checkOk := true, commit := .idle, writing := none }
    alert := false
    pending := [] }

end Sys2Proof.Machine
end

