-- ==== Sys2Proof/Machine/Ops.lean ====
section
/-! DEFINITION. The operations every block uses: the run-time counter, the working copy, entering and reading the log, judging
ALERT, and restarting the park idle timer. (The part has no exceptions, so there is no entry to one here.) -/
namespace Sys2Proof.Machine

/-- The run-time counter's reading (R55). -/
def State.now (s : State) : Time := s.retention.counter

/-- The working copy: the settings in force (section 12.3). -/
def State.cfg (s : State) : Settings := s.store.working

/-- The part is powered from the pack: the supply state is QUALIFY, ACTIVE or PARK (R49). -/
def State.powered (s : State) : Bool := s.supply.state != .retain

/-- ACTIVE or PARK, where the sets are judged on an identity in force (R3). -/
def State.running (s : State) : Bool := s.supply.state == .active || s.supply.state == .park

/-- One millisecond passes: the counter counts in every supply state (R55). In RETAIN it runs from the backup cell, and has
stopped once the contents are lost (R56). -/
def tick (s : State) : State :=
  if s.powered || s.retention.valid then
    { s with retention := { s.retention with counter := s.retention.counter + 1 } }
  else s

/-! ## The event log (chapter 11) -/

/-- A record enters the ring (R198). -/
def Log.enter (l : Log) (r : LogRecord) : Log :=
  if l.ring.length < 48 then
    { ring := l.ring ++ [r], unread := l.unread + 1, overwritten := l.overwritten }
  else if l.unread < 48 then
    { ring := l.ring.tail ++ [r], unread := l.unread + 1, overwritten := l.overwritten }
  else
    { ring := l.ring.tail ++ [r], unread := l.unread, overwritten := true }

/-- The unread records: the newest held, as many as the unread count gives; the read point is the first (chapter 11). -/
def Log.unreadRecords (l : Log) : List LogRecord := l.ring.drop (l.ring.length - l.unread)

/-- The severity belongs to alert_mask (R201). -/
def AlertMask.admits (m : AlertMask) : Severity → Bool
  | .info => m.info
  | .warn => m.warn
  | .fault => m.fault

/-- At least one unread record has a severity that alert_mask includes (R201). -/
def alertOf (m : AlertMask) (l : Log) : Bool := l.unreadRecords.any (fun r => m.admits r.kind.severity)

/-- The log judges ALERT again (R201); in RETAIN the line is not driven. -/
def judgeAlert (s : State) : State :=
  if s.powered then { s with alert := alertOf s.cfg.alertMask s.retention.log } else s

/-- A record of the kind is logged, with the time of the event (section 0.5, R198), and ALERT is judged (R201). -/
def enterLog (kind : LogKind) (data : List Nat) (s : State) : State :=
  judgeAlert
    { s with
      retention := { s.retention with
        log := s.retention.log.enter { time := s.now, kind := kind, data := data.map half } } }

/-! ## The park idle timer (R65) -/

/-- The Supply Controller restarts the park idle timer, which runs in ACTIVE while park_idle_min is nonzero (R65). -/
def restartIdle (s : State) : State :=
  { s with
    supply := { s.supply with
      idle :=
        if s.supply.state = .active ∧ s.cfg.supply.parkIdleMin ≠ 0 then
          some (timerAt s.now (s.cfg.supply.parkIdleMin * 60000))
        else none } }

/-! ## The identity in force (R56) -/

/-- The Pack Monitor and the Protection Controller update a quantity of the identity where it is kept (R56). -/
def updateIdentity (f : Identity → Identity) (s : State) : State :=
  { s with retention := { s.retention with identity := s.retention.identity.map f } }

/-- The resistance estimate held: that of the identity present, otherwise r_init (R3). That a write of r_init taken with no identity
present counts for the next set already is DESIGN CHOICE (log entry 47). -/
def State.estimate (s : State) : Nat :=
  match s.retention.identity with
  | some i => i.r
  | none => s.cfg.pack.rInit

/-- The voltage level: that of the identity present, or NORMAL (R24). -/
def State.voltageLevel (s : State) : Level :=
  match s.retention.identity with
  | some i => i.level
  | none => .normal

/-- Trip-LIMP runs (R13). -/
def State.tripLimp (s : State) : Bool :=
  match s.retention.identity with
  | some i => i.tripLimp.isSome
  | none => false

/-- A limp-home period runs (R22). -/
def State.limpHomeRuns (s : State) : Bool :=
  match s.retention.identity with
  | some i => i.limpPeriod.isSome
  | none => false

end Sys2Proof.Machine
end

