-- ==== Sys2Proof/Machine/Flags.lean ====
section
/-! DEFINITION. The conditions and flags other blocks read, each from the state of the block that owns it (R110), and reading
and writing the Interlock Unit's copy of them. -/
namespace Sys2Proof.Machine

/-- LEVEL_REDUCED for a level (R20). -/
def Level.reduced (l : Level) : Bool := l.worse .normal

/-- LEVEL_LIMP for a level (R20). -/
def Level.isLimp (l : Level) : Bool := l.worse .conserve

/-- TRIP_ACTIVE: the trip hold runs (R12). -/
def State.tripActive (s : State) : Bool := s.monitor.tripHold.isSome

/-- WINCH_MOVING (R156). -/
def State.winchMoving (s : State) : Bool := s.winch.st == .hauling || s.winch.st == .payingOut

/-- ASSIST_ACTIVE (R206). -/
def State.assistActive (s : State) : Bool := s.assist.window.isSome

/-- "SRV_PG good": the rail state is GOOD (section 3.6). -/
def State.railGood (s : State) : Bool := s.supply.rail == .good

/-- A magnitude within a neutral band (R76). -/
def within (v : Int) (band : Nat) : Bool := v.natAbs ≤ band

/-- The queue holds a running or queued job (R98). -/
def State.jobsHeld (s : State) : Bool := !s.winch.queue.isEmpty

/-- The unit's copy of a condition. -/
def Conds.get (k : Conds) : Cond → Bool
  | .linkUp => k.linkUp
  | .linkLost => k.linkLost
  | .assistActive => k.assistActive
  | .throttleNeutral => k.throttleNeutral
  | .steerSettled => k.steerSettled
  | .winchMoving => k.winchMoving
  | .hookStowed => k.hookStowed
  | .tilted => k.tilted
  | .levelReduced => k.levelReduced
  | .levelLimp => k.levelLimp
  | .tripActive => k.tripActive
  | .locateActive => k.locateActive
  | .latchA => k.latchA
  | .latchB => k.latchB

def Conds.set (k : Conds) (c : Cond) (v : Bool) : Conds :=
  match c with
  | .linkUp => { k with linkUp := v }
  | .linkLost => { k with linkLost := v }
  | .assistActive => { k with assistActive := v }
  | .throttleNeutral => { k with throttleNeutral := v }
  | .steerSettled => { k with steerSettled := v }
  | .winchMoving => { k with winchMoving := v }
  | .hookStowed => { k with hookStowed := v }
  | .tilted => { k with tilted := v }
  | .levelReduced => { k with levelReduced := v }
  | .levelLimp => { k with levelLimp := v }
  | .tripActive => { k with tripActive := v }
  | .locateActive => { k with locateActive := v }
  | .latchA => { k with latchA := v }
  | .latchB => { k with latchB := v }

/-- A gate or latch term holds on the copy (R112). -/
def GateTerm.holds (t : GateTerm) (k : Conds) : Bool := k.get t.cond == t.pol

/-- A gate is closed: enabled, with at least one term, and some term fails (R112). -/
def Gate.isClosed (g : Gate) (k : Conds) : Bool := g.enabled && g.terms.any (fun t => !t.holds k)

/-- An absent latch term never holds (R121). -/
def latchTermHolds (t : Option GateTerm) (k : Conds) : Bool :=
  match t with
  | some t => t.holds k
  | none => false

/-- The value of a latch after a judgement: reset wins (R121). -/
def Latch.judge (l : Latch) (k : Conds) (before : Bool) : Bool :=
  if latchTermHolds l.reset k then false
  else if latchTermHolds l.set k then true
  else before

/-- The state of a target, from the closed gates that name it (R113). -/
def targetStateOf (gates : Eight Gate) (closed : Eight Bool) (t : Target) : TargetState :=
  let named := (gates.toList.zip closed.toList).filter (fun p => p.2 && p.1.target == some t)
  if named.any (fun p => p.1.action == .release) then .released
  else if named.any (fun p => p.1.action == .hold) then .held
  else .opened

/-- The index of the lowest-numbered closed RELEASE gate that names the target (R117). -/
def releasingGate (gates : Eight Gate) (closed : Eight Bool) (t : Target) : Nat :=
  (gates.toList.zip closed.toList).findIdx (fun p => p.2 && p.1.target == some t && p.1.action == .release)

end Sys2Proof.Machine
end

