-- ==== Sys2Proof/Machine/Operands.lean ====
section
/-! DEFINITION. The operand forms of the part's two links (section 12.4): numbers in bytes, the channel frame, the telemetry
reply, the framing of requests and responses, and the log record. -/
namespace Sys2Proof.Machine

/-! ## Numbers (R212) -/

def byteOf (n : Nat) : Byte := BitVec.ofNat 8 n

/-- A flag is one byte, 0 or 1 (R212). -/
def flagByte (b : Bool) : Byte := if b then 1 else 0

/-- 16 bits, least significant byte first (R212). -/
def le16 (n : Nat) : List Byte := [byteOf n, byteOf (n / 256)]

/-- A signed quantity in two's complement, 16 bits (R212). -/
def leSigned16 (v : Int) : List Byte := le16 (BitVec.ofInt 16 v).toNat

/-- A time: 32 bits (R212), least significant byte first as numbers of 16 bits are (DEDUCED, log entry 23). -/
def le32 (n : Nat) : List Byte := [byteOf n, byteOf (n / 256), byteOf (n / 65536), byteOf (n / 16777216)]

/-- A quantity in 16 bits; what is sent above 65,535 is left free (Config.wide16). -/
def wide (n : Nat) : List Byte := if n ≤ 65535 then le16 n else le16 (Config.wide16 n).toNat

/-- An 8-bit field with no value (R212). -/
def noByte : Byte := 0xFF

/-- A 16-bit field with no value (R212). -/
def noHalf : List Byte := [0xFF, 0xFF]

/-- An optional number in one byte (R212). -/
def optByte (o : Option Nat) : Byte :=
  match o with
  | some n => byteOf n
  | none => noByte

/-- The number of two bytes, least significant first (R212). -/
def num16 (lo hi : Byte) : Nat := lo.toNat + 256 * hi.toNat

/-- The signed quantity of two bytes (R212). -/
def int16 (lo hi : Byte) : Int := (BitVec.ofNat 16 (num16 lo hi)).toInt

/-- A list field: its count, its entries, and zero entries up to its largest size (R212). -/
def listField (largest width : Nat) (entries : List (List Byte)) : List Byte :=
  byteOf entries.length :: (entries.flatten ++ List.replicate ((largest - entries.length) * width) 0)

/-- The byte at a place, 0 beyond the end. -/
def byteAt (l : List Byte) (i : Nat) : Byte := l.getD i 0

/-! ## The channel frame (12.4.1, R71, R72) -/

/-- The exclusive-or of bytes. -/
def xorAll (l : List Byte) : Byte := l.foldl (fun a b => a ^^^ b) 0

/-- The frame is valid: marker, length, no framing error and no overlap with a reply, check byte (R71). -/
def frameValid (bytes : List Byte) (rx : Reception) : Bool :=
  byteAt bytes 0 == 0xA7 && bytes.length == 19 && rx == .clean &&
    xorAll ((bytes.drop 1).take 17) == byteAt bytes 18

/-- The 120-bit channel field: bytes 3 to 17, bit 0 the least significant bit of byte 3. -/
def channelField (bytes : List Byte) : Nat := ((bytes.drop 3).take 15).foldr (fun b n => b.toNat + 256 * n) 0

/-- The i-th channel, counted from 0, as carried: 12 bits in two's complement. -/
def channelCarried (bytes : List Byte) (i : Nat) : Int :=
  (BitVec.ofNat 12 (channelField bytes / 2 ^ (12 * i))).toInt

/-- A valid frame as taken (R72). -/
def frameOf (now : Time) (bytes : List Byte) : Frame :=
  let b1 := byteAt bytes 1
  { time := now
    count := b1.toNat % 16
    rxFailsafe := b1.getLsbD 4
    telemReq := b1.getLsbD 5
    quality := clampN 0 100 (byteAt bytes 2).toNat
    channels := [0, 1, 2, 3, 4, 5, 6, 7, 8, 9].map (fun i => clampI (-1000) 1000 (channelCarried bytes i)) }

/-! ## The telemetry reply (12.4.2, R83, R203) -/

/-- The newest WARN or FAULT record held, read or unread (R203). -/
def noticeRecord (l : Log) : Option LogRecord := l.ring.reverse.find? (fun r => r.kind.severity != .info)

/-- A record's age in whole seconds, 65,535 when larger (R203). -/
def ageSeconds (now : Time) (r : LogRecord) : Nat :=
  if elapsed now r.time / 1000 ≤ 65535 then elapsed now r.time / 1000 else 65535

/-- The payload of a kind (12.4.2). The tag of no job and the age of no record are sent as fields with no value (DEDUCED,
log entry 23). -/
def replyPayload (kind : TelemKind) (s : State) : List Byte :=
  match kind with
  | .pack =>
    le16 s.monitor.latest.vMeas ++ le16 s.monitor.latest.iMeas ++ [byteOf s.protection.effective.code, 0]
  | .energy =>
    wide s.monitor.usedMah
      ++ [optByte s.monitor.remainingPct, byteOf (match s.retention.identity with | some i => i.cells | none => 0), 0, 0]
  | .winch =>
    let tag : Option Nat :=
      match s.winch.running with
      | some _ => s.winch.queue.head?.map (fun j => j.tag)
      | none => none
    [byteOf s.winch.st.code] ++ le16 s.retention.lineCount ++ [optByte tag, flagByte tag.isSome, 0]
  | .notice =>
    match noticeRecord s.retention.log with
    | some r => [byteOf r.kind.code] ++ le16 (ageSeconds s.now r) ++ [0, 0, 0]
    | none => [0] ++ noHalf ++ [0, 0, 0]

/-- The reply to the frame with a count, of a kind (12.4.2). -/
def replyBytes (count : Nat) (kind : TelemKind) (s : State) : List Byte :=
  let body := byteOf (count % 16 + 16 * kind.code) :: replyPayload kind s
  0xA8 :: (body ++ [xorAll body])

/-! ## Requests and responses (12.4.3, R204) -/

/-- A response: status, code echo, length of the data, data. -/
def responseBytes (st : Status) (code : Byte) (data : List Byte) : List Byte :=
  byteOf st.code :: code :: byteOf data.length :: data

/-- What is shifted out in so many clocked bytes: the slot from its first byte, then zero bytes (R204). -/
def shiftOut (clocked : Nat) (slot : List Byte) : List Byte :=
  slot.take clocked ++ List.replicate (clocked - slot.length) 0

/-- The bytes a complete transaction clocks: code, length, parameters, and whatever is clocked beyond (R204). -/
def clockedBytes (r : Request) : Nat := 2 + r.params.length + r.extra.length

/-! ## The log record as READ_LOG returns it (12.4.4) -/

/-- The three data fields, unused ones 0. -/
def dataFields (l : List Half) : List Byte :=
  [0, 1, 2].flatMap (fun i => le16 (l.getD i 0).toNat)

/-- Bytes 0 to 15. The source block is counted from 0 in the order of section 0.3.2 (DEDUCED, log entry 23). -/
def recordBytes (r : LogRecord) (overwritten : Bool) (unreadAfter : Nat) : List Byte :=
  le32 r.time.toNat
    ++ [byteOf r.kind.code, byteOf r.kind.source.code, byteOf r.kind.severity.code, byteOf r.data.length]
    ++ dataFields r.data ++ [flagByte overwritten, byteOf unreadAfter]

end Sys2Proof.Machine
end

