-- ==== Sys2Proof/Machine/Drive.lean ====
section
/-! DEFINITION. The Drive Output (chapter 8): the gated throttle, the candidate, the ramp, the pulse, and what the DRIVE_FWD and
DRIVE_REV targets freeze. -/
namespace Sys2Proof.Machine

/-- The gated throttle of a command (R146). -/
def gatedThrottle (s : State) : Int :=
  let d := s.authority.commands.throttle
  if 0 < d then
    match s.interlock.targets.driveFwd with
    | .opened => d
    | .held => s.drive.fwdFreeze.getD 0
    | .released => 0
  else if d < 0 then
    match s.interlock.targets.driveRev with
    | .opened => d
    | .held => s.drive.revFreeze.getD 0
    | .released => 0
  else 0

/-- A magnitude above `limit` taken as `limit`, with the sign kept (R147). -/
def capMagnitude (limit : Nat) (v : Int) : Int := clampI (-(limit : Int)) limit v

/-- The candidate: ratio, LIMP cap, forcing (R147). -/
def driveCandidate (g : Int) (q : Nat) (level : Level) (trip : Bool) (limpDrivePct : Nat) : Int :=
  let scaled := divZ (g * q) 256
  let capped := if level = .limp then capMagnitude (limpDrivePct * 10) scaled else scaled
  if trip || level == .cutoff then 0 else capped

/-- The ramp: d_eff from the candidate and d_eff of the frame before (R148). -/
def rampStep (ramp : Nat) (p c : Int) : Int :=
  if ramp = 0 then c
  else if c = 0 ∨ (0 < c ∧ 0 < p ∧ c ≤ p) ∨ (c < 0 ∧ p < 0 ∧ p ≤ c) then c
  else
    let base := if (0 < c ∧ 0 < p) ∨ (c < 0 ∧ p < 0) then p else 0
    let rise : Int := (Nat.min ramp (c.natAbs - base.natAbs) : Nat)
    if 0 < c then base + rise else base - rise

/-- The ESC pulse width of an effective throttle (R149). -/
def escPulse (v : DriveSettings) (dEff : Int) : Int :=
  let travel := divZ (dEff * v.throw) 1000
  clampI v.endLow v.endHigh (1500 + v.trim + (if v.rev then -travel else travel))

/-- The DRIVE demand of a gated throttle (R151). -/
def driveDemand (driveFullMa : Nat) (g : Int) : Nat := driveFullMa * g.natAbs / 1000

/-- PARK entry and a change to CUTOFF set the output to neutral at the event (R150). The pulse in progress ends at its old
width: the next one begins at a frame. -/
def driveNeutral (s : State) : State :=
  { s with drive := { s.drive with dEff := 0, out := escNeutral s.cfg.drive } }

/-- The forward freeze taken or discarded when DRIVE_FWD changes (R146). -/
def driveFwdTarget (old new : TargetState) (s : State) : State :=
  { s with
    drive := { s.drive with
      fwdFreeze :=
        match new with
        | .held => some (if old = .opened ∧ 0 < s.drive.gated then s.drive.gated else 0)
        | .opened | .released => none } }

/-- The reverse freeze taken or discarded when DRIVE_REV changes (R146). -/
def driveRevTarget (old new : TargetState) (s : State) : State :=
  { s with
    drive := { s.drive with
      revFreeze :=
        match new with
        | .held => some (if old = .opened ∧ s.drive.gated < 0 then s.drive.gated else 0)
        | .opened | .released => none } }

/-- A frame start (R145), up to handing d_eff on: q_drive taken, the gated throttle and the demand formed, d_eff formed in
ACTIVE and 0 otherwise, the output set and emitted. The clock falls into the period the working copy then gives (R144). -/
def driveFrame (s : State) : State :=
  let w := s.cfg.drive
  let q := s.budget.classes.drive.ratio
  let g := gatedThrottle s
  let c := driveCandidate g q s.protection.effective s.tripActive w.limpDrivePct
  let dEff := if s.supply.state = .active then rampStep w.ramp s.drive.dEff c else 0
  { s with
    drive := { s.drive with
      clock := s.drive.clock.fall w.escFrameMs
      q := q
      gated := g
      demand := driveDemand s.cfg.budget.driveFullMa g
      dEff := dEff
      out := escPulse w dEff
      pulse := some (escPulse w dEff) } }

end Sys2Proof.Machine
end

