-- ==== Sys2Proof/Machine/Lights.lean ====
section
/-! DEFINITION. The Light Controller (chapter 10): sources, runs, the shared blinker, output levels, darkness, demands, and
what the SCENE_LIGHTS target does to them. `lightsRefresh` is the controller's one way of taking any change of an input: it
decides every source again and does what R184 to R192 make of the difference. -/
namespace Sys2Proof.Machine

/-- The patterns P0 to P7 (R182). -/
def LightSettings.patternOf (l : LightSettings) : Fin 8 → Pattern
  | 0 => patternSteady
  | 1 => patternDark
  | 2 => l.p2
  | 3 => l.p3
  | 4 => l.p4
  | 5 => l.p5
  | 6 => l.p6
  | 7 => l.p7

/-- A step of a pattern. -/
def Pattern.stepAt (p : Pattern) (i : Nat) : PatternStep := p.steps.getD i { level := 0, units := 1 }

/-- The step that begins when a step expires (R182). -/
def Pattern.nextStep (p : Pattern) (i : Nat) : Nat :=
  if i + 1 < p.steps.length then i + 1 else if p.loop then 0 else p.steps.length - 1

/-- The time a step takes, from now. -/
def Pattern.timerFor (p : Pattern) (i : Nat) (now : Time) : Timer := timerAt now ((p.stepAt i).units * 10)

/-! ## Sources (R183, R184, R187, R188) -/

/-- The hazard is active while any of its five sources is true (R187). -/
def hazardActive (s : State) : Bool :=
  s.radio.link == .lost || s.protection.effective.isLimp || (s.cfg.lights.winchHazard && s.winchMoving)
    || s.lights.hazardAssist || s.lights.hazardGesture

/-- The scene in force: the LIGHTS function command (R183). -/
def sceneInForce (s : State) : Eight (Option (Fin 8)) :=
  match s.authority.commands.scene with
  | 0 => s.cfg.lights.scenes.e0
  | 1 => s.cfg.lights.scenes.e1
  | 2 => s.cfg.lights.scenes.e2
  | _ => s.cfg.lights.scenes.e3

/-- What AUTO gives a role (R183). -/
def autoPattern : Role → Fin 8
  | .head | .tail | .rock | .bar => 0
  | .beacon | .brake | .reverse | .turnL | .turnR => 1

def channelEntry (s : State) (i : Fin 8) : ChannelEntry := s.cfg.lights.channels.get i

/-- The source of a channel: the first row of R184's table that applies. -/
def channelSource (s : State) (i : Fin 8) : Source :=
  let e := channelEntry s i
  let auto := ((sceneInForce s).get i).isNone
  if e.locate && s.lights.locate then .locate
  else if (e.role == .turnL || e.role == .turnR) && hazardActive s then .hazard
  else if (e.role == .turnL && s.lights.turnL) || (e.role == .turnR && s.lights.turnR) then .turn
  else if e.role == .brake && auto && s.authority.neutral then .brake
  else if e.role == .reverse && auto && s.drive.dEff < -(s.radio.bands.throttle : Int) then .reverse
  else .scene

/-- The pattern a source shows on a channel; P2 for the shared blinker (R184, R186). -/
def sourcePattern (s : State) (src : Source) (i : Fin 8) : Fin 8 :=
  match src with
  | .locate => s.cfg.lights.locatePattern
  | .hazard | .turn => 2
  | .brake | .reverse => 0
  | .scene =>
    match (sceneInForce s).get i with
    | some p => p
    | none => autoPattern (channelEntry s i).role

/-- HAZARD and TURN show the shared blinker (R184). -/
def Source.blinks : Source → Bool
  | .hazard | .turn => true
  | .locate | .brake | .reverse | .scene => false

def ChannelState.blinks (c : ChannelState) : Bool :=
  match c.source with
  | some src => src.blinks
  | none => false

/-! ## Output levels and darkness (R189, R190) -/

/-- The published ratio of a channel's class (R42). -/
def classRatio (s : State) (i : Fin 8) : Nat :=
  match (channelEntry s i).cls with
  | .signal => s.budget.classes.signal.ratio
  | .scene => s.budget.classes.scene.ratio

/-- The output level of a step level, a brightness and a ratio (R189). -/
def outputLevel (level brightness ratio : Nat) : Nat := scale (level * brightness / 255) ratio

/-- The first five rows of R190, for a channel with the given source. -/
def darkByRule (s : State) (i : Fin 8) (src : Option Source) : Bool :=
  let e := channelEntry s i
  let located := e.cls == .signal && src == some .locate
  (s.supply.state == .retain || s.supply.state == .qualify)
    || (s.supply.state == .park && !located)
    || (s.protection.effective == .cutoff && !located)
    || ((s.protection.effective == .conserve || s.protection.effective == .limp) && e.cls == .scene)
    || (e.cls == .scene
        && (s.interlock.targets.sceneLights == .released
            || (s.interlock.targets.sceneLights == .held && s.lights.heldDark)))

/-- The level of the step a channel shows: its frozen step, the blinker's present step, or its own (R189, R191). -/
def shownLevel (s : State) (c : ChannelState) : Nat :=
  match c.freeze with
  | some .dark => 0
  | some (.shown _ _ p k) => (p.stepAt k).level
  | none =>
    if c.blinks then
      match s.lights.blinker with
      | some b => (s.cfg.lights.p2.stepAt b.step).level
      | none => 0
    else ((s.cfg.lights.patternOf c.pattern).stepAt c.step).level

/-- The last row of R190: a SCENE channel that holds this ratio is dark. -/
def shedBy (s : State) (i : Fin 8) (q : Nat) : Bool := (channelEntry s i).cls == .scene && q < 64

/-- A pattern step of a channel: it takes its class ratio and sets its output level, 0 while it is dark, by a rule or by a
SCENE ratio below 64 (R182, R189, R190). -/
def takeStep (s : State) (i : Fin 8) (c : ChannelState) : ChannelState :=
  let q := classRatio s i
  { c with
    ratio := q
    level := if c.dark || shedBy s i q then 0 else outputLevel (shownLevel s c) (channelEntry s i).brightness q }

/-- A channel's own run begins at step 0 (R182, R185). -/
def beginRun (s : State) (i : Fin 8) (src : Source) (c : ChannelState) : ChannelState :=
  let p := sourcePattern s src i
  takeStep s i
    { c with
      source := some src, pattern := p, step := 0, freeze := none
      timer := some ((s.cfg.lights.patternOf p).timerFor 0 s.now) }

/-- A channel joins the shared blinker at its present step (R185). -/
def joinBlinker (s : State) (i : Fin 8) (src : Source) (c : ChannelState) : ChannelState :=
  takeStep s i { c with source := some src, pattern := 2, step := 0, freeze := none, timer := none }

/-- The freeze of what a channel shows: on the blinker P2 and the blinker's present step, which goes on to its expiry
(R191). -/
def freezeShown (s : State) (c : ChannelState) : ChannelState :=
  match c.source with
  | none => { c with freeze := some .dark, timer := none }
  | some src =>
    if src.blinks then
      match s.lights.blinker with
      | some b => { c with freeze := some (.shown src 2 s.cfg.lights.p2 b.step), timer := some b.timer }
      | none => { c with freeze := some (.shown src 2 s.cfg.lights.p2 0), timer := none }
    else { c with freeze := some (.shown src c.pattern (s.cfg.lights.patternOf c.pattern) c.step) }

/-- The source decided now, taken by a channel that SCENE_LIGHTS does not keep from showing it (R185). -/
def takeSource (s : State) (i : Fin 8) (c : ChannelState) : ChannelState :=
  let src := channelSource s i
  if src.blinks then
    if c.blinks && c.freeze.isNone then { c with source := some src } else joinBlinker s i src c
  else if c.source = some src ∧ c.pattern = sourcePattern s src i ∧ c.freeze = none then c
  else beginRun s i src c

/-- The source decided now, taken by a channel whose class SCENE_LIGHTS governs or not (R191). -/
def takeSourceUnder (s : State) (i : Fin 8) (c : ChannelState) : ChannelState :=
  match (channelEntry s i).cls, s.interlock.targets.sceneLights with
  | .signal, _ | .scene, .opened => takeSource s i c
  | .scene, .released => { c with source := none, step := 0, timer := none, freeze := none }
  | .scene, .held =>
    match c.freeze with
    | some _ => { c with source := some (channelSource s i) }
    | none =>
      -- DESIGN CHOICE (log entry 14): a channel written into class SCENE while SCENE_LIGHTS is HELD
      if s.lights.heldDark then { c with source := some (channelSource s i), freeze := some .dark, timer := none }
      else freezeShown s (takeSource s i c)

/-- Darkness by the first five rows of R190, taken at the event: a channel that becomes dark emits 0, one that stops being
dark takes its ratio and sets its level as at a pattern step. A SCENE channel whose held ratio is below 64 does not stop being dark
then: the last row keeps it dark until its next pattern step. -/
def takeDarkness (s : State) (i : Fin 8) (c : ChannelState) : ChannelState :=
  if darkByRule s i c.source then { c with dark := true, level := 0 }
  else if c.dark then
    (if shedBy s i c.ratio then { c with dark := false, level := 0 } else takeStep s i { c with dark := false })
  else c

/-! ## Demands (R192) -/

/-- The pattern a channel shows, for the demand (R192). -/
def shownPattern (s : State) (c : ChannelState) : Pattern :=
  match c.freeze with
  | some .dark => patternDark
  | some (.shown _ _ p _) => p
  | none => if c.blinks then s.cfg.lights.p2 else s.cfg.lights.patternOf c.pattern

/-- A channel is on (R192). -/
def channelOn (s : State) (i : Fin 8) (c : ChannelState) : Bool :=
  (shownPattern s c).steps.any (fun st => st.level != 0) && (channelEntry s i).brightness != 0
    && !darkByRule s i c.source

/-- The contribution of a channel that is on (R192). -/
def contribution (s : State) (i : Fin 8) : Nat :=
  if channelOn s i (s.lights.chans.get i) then (channelEntry s i).nominalMa * (channelEntry s i).brightness / 255 else 0

/-- The sum of the contributions of the channels that `p` picks. -/
def sumOf (s : State) (p : ChannelEntry → Bool) : Nat :=
  (List.map (fun i => if p (channelEntry s i) then contribution s i else 0) [0, 1, 2, 3, 4, 5, 6, 7]).sum

/-- The three figures, formed afresh and reported together (R192). -/
def reportLightDemands (s : State) : State :=
  { s with
    lights := { s.lights with
      signalDemand := sumOf s (fun e => e.cls == .signal)
      sceneDemand := sumOf s (fun e => e.cls == .scene)
      locatePart := sumOf s (fun e => e.cls == .signal && e.locate) } }

/-! ## Taking a change of any input -/

/-- The shared blinker runs while the hazard or a turn signal is active (R186). -/
def judgeBlinker (s : State) : State :=
  { s with
    lights := { s.lights with
      blinker :=
        if hazardActive s || s.lights.turnL || s.lights.turnR then
          match s.lights.blinker with
          | some b => some b
          | none => some { step := 0, timer := s.cfg.lights.p2.timerFor 0 s.now }
        else none } }

/-- The source of every channel, decided again (R184). -/
def decideSources (s : State) : State :=
  { s with
    lights := { s.lights with
      chans := Eight.tabulate (fun i => takeDarkness s i (takeSourceUnder s i (s.lights.chans.get i))) } }

/-- The controller takes whatever inputs have changed: the blinker, the sources, darkness and the demands. -/
def lightsRefresh (s : State) : State := reportLightDemands (decideSources (judgeBlinker s))

/-- The turn signals, judged at a handing-over of the STEER command (R188). -/
def judgeTurns (s : State) : State :=
  let t : Int := s.cfg.lights.turnThreshold
  let v := s.authority.commands.steer
  { s with
    lights := { s.lights with turnL := t != 0 && decide (v ≤ -t), turnR := t != 0 && decide (t ≤ v) } }

/-- A write makes a channel's run restart: its source is decided as if it had none (R185, R197). -/
def forgetSource (p : ChannelState → Bool) (s : State) : State :=
  { s with
    lights := { s.lights with
      chans := s.lights.chans.map
        (fun c => if c.freeze.isNone && p c then { c with source := none } else c) } }

/-! ## The SCENE_LIGHTS target (R191) -/

/-- A SCENE channel leaves HELD for OPEN: the same source and pattern go on from the frozen step begun afresh, or on the blinker;
anything else restarts (R191). Where the event that brings OPEN changes an input of the overlays too, no rule says whether the
source compared is the one before the change or after it: that it is the one after is DESIGN CHOICE (log entry 56). -/
def thaw (s : State) (i : Fin 8) (c : ChannelState) : ChannelState :=
  let src := channelSource s i
  match c.freeze with
  | some (.shown src0 idx p k) =>
    if src0.blinks then
      if src.blinks then joinBlinker s i src c else { c with source := none, freeze := none }
    else if src = src0 ∧ sourcePattern s src i = idx ∧ s.cfg.lights.patternOf idx = p then
      takeStep s i
        { c with source := some src, pattern := idx, step := k, freeze := none, timer := some (p.timerFor k s.now) }
    else { c with source := none, freeze := none }
  | some .dark | none => { c with source := none, freeze := none }

/-- `f` on every SCENE-class channel, with whether a HELD SCENE_LIGHTS was entered from RELEASED. -/
def onSceneChannels (heldDark : Bool) (f : Fin 8 → ChannelState → ChannelState) (s : State) : State :=
  { s with
    lights := { s.lights with
      heldDark := heldDark
      chans := Eight.tabulate (fun i =>
        if (channelEntry s i).cls == .scene then f i (s.lights.chans.get i) else s.lights.chans.get i) } }

/-- A SCENE_LIGHTS that leaves HELD for OPEN: the blinker is judged first, so that a channel that joins it in this event finds
its present step (R185, R191). -/
def thawScene (s : State) : State :=
  let s1 := judgeBlinker s
  onSceneChannels false (thaw s1) s1

/-- The controller takes a new SCENE_LIGHTS target state at the event that brings it. -/
def lightsTarget (old new : TargetState) (s : State) : State :=
  match new with
  | .held =>
    if old = .released then onSceneChannels true (fun _ c => { c with freeze := some .dark, timer := none }) s
    else onSceneChannels false (fun _ c => freezeShown s c) s
  | .opened => if old = .held then thawScene s else s
  | .released => { s with lights := { s.lights with heldDark := false } }

/-! ## Pattern steps -/

/-- The expiry of a channel's present step (R182, R191). -/
def channelStepExpired (i : Fin 8) (s : State) : State :=
  let c := s.lights.chans.get i
  let p := s.cfg.lights.patternOf c.pattern
  let c' :=
    match c.freeze with
    | some (.shown _ _ fp k) => takeStep s i { c with timer := some (fp.timerFor k s.now) }
    | some .dark => c
    | none =>
      takeStep s i { c with step := p.nextStep c.step, timer := some (p.timerFor (p.nextStep c.step) s.now) }
  { s with lights := { s.lights with chans := s.lights.chans.set i c' } }

/-- Every channel on the blinker takes a pattern step (R186). -/
def blinkerChannelsStep (s : State) : State :=
  { s with
    lights := { s.lights with
      chans := Eight.tabulate (fun i =>
        let c := s.lights.chans.get i
        if c.blinks && c.freeze.isNone then takeStep s i c else c) } }

/-- The shared blinker begins a step (R186). -/
def blinkerBegin (k : Nat) (s : State) : State :=
  blinkerChannelsStep
    { s with lights := { s.lights with blinker := some { step := k, timer := s.cfg.lights.p2.timerFor k s.now } } }

end Sys2Proof.Machine
end

