-- ==== Sys2Proof/Machine/Steering.lean ====
section
/-! DEFINITION. The Steering Unit (chapter 7): geometry, slew, settling, and the protocol of mode changes. Nothing here hands
STEER_SETTLED on; a caller hands it once the records of its event are in the log (R134). -/
namespace Sys2Proof.Machine

/-! ## Geometry (R129 to R131) -/

/-- The front command of the STEER command in a mode (R129). -/
def frontCommand (m : Mode) (s : Int) : Int :=
  match m with
  | .front | .counter | .crab => s
  | .rear => 0

/-- The rear command of the STEER command in a mode (R129). -/
def rearCommand (m : Mode) (rearRatio : Nat) (s : Int) : Int :=
  match m with
  | .front => 0
  | .rear => s
  | .counter => -(divZ (s * rearRatio) 100)
  | .crab => divZ (s * rearRatio) 100

/-- The target of an output and its command (R130). -/
def servoTarget (v : ServoSettings) (c : Int) : Int :=
  let travel := divZ (c * v.throw) 1000
  clampI v.endLow v.endHigh (1500 + v.trim + (if v.rev then -travel else travel))

/-- STEER_REAR keeps the rear target at centre: RELEASED, or HELD entered from RELEASED (R131). -/
def rearSafe (s : State) : Bool :=
  match s.interlock.targets.steerRear with
  | .opened => false
  | .released => true
  | .held => s.steering.freeze.isNone

/-- The targets of a frame (R129 to R131). -/
def computeTargets (s : State) : State :=
  let w := s.cfg.steering
  let c := s.authority.commands.steer
  { s with
    steering := { s.steering with
      targetF := servoTarget w.front (frontCommand s.steering.mode c)
      targetR :=
        if rearSafe s then servoCentre w.rear else servoTarget w.rear (rearCommand s.steering.mode w.rearRatio c) } }

/-! ## Slew (R132, R133) -/

/-- The largest step of an output at a ratio, never below 1 µs (R132). -/
def slewEff (slew q : Nat) : Nat := if scale slew q = 0 then 1 else scale slew q

/-- An output moved toward its target by at most `step`, then limited to its endpoints (R132). -/
def slewToward (v : ServoSettings) (step : Nat) (out target : Int) : Int :=
  let moved :=
    if (target - out).natAbs ≤ step then target else if out < target then out + step else out - step
  clampI v.endLow v.endHigh moved

/-- A frame is emitting when the supply state is ACTIVE and the rail state is GOOD (R128). -/
def emitting (s : State) : Bool := s.supply.state == .active && s.railGood

/-- The outputs moved or frozen and emitted at an emitting frame, and held at any other (R131 to R133). -/
def moveOutputs (s : State) : State :=
  if emitting s then
    let w := s.cfg.steering
    let f := slewToward w.front (slewEff w.front.slew s.steering.q) s.steering.outF s.steering.targetF
    let r :=
      match s.interlock.targets.steerRear, s.steering.freeze with
      | .held, some v => clampI w.rear.endLow w.rear.endHigh v
      | _, _ => slewToward w.rear (slewEff w.rear.slew s.steering.q) s.steering.outR s.steering.targetR
    { s with steering := { s.steering with outF := f, outR := r, pulse := some (f, r) } }
  else { s with steering := { s.steering with pulse := none } }

/-! ## Settling (R134) -/

/-- The distance of the front output from its target, at the latest frame. -/
def distanceF (s : State) : Nat := (s.steering.outF - s.steering.targetF).natAbs
/-- The distance of the rear output from its target, at the latest frame. -/
def distanceR (s : State) : Nat := (s.steering.outR - s.steering.targetR).natAbs

/-- Both outputs are settled (R134). -/
def outputsSettled (s : State) : Bool :=
  distanceF s ≤ s.steering.settleUs && distanceR s ≤ s.steering.settleUs

/-- STEER_SETTLED, judged at a frame and at each change of the mode-change state (R134). -/
def judgeSettled (s : State) : State :=
  { s with steering := { s.steering with settled := outputsSettled s && s.steering.phase != .transition } }

/-- The mode-change state changes: STEER_SETTLED is judged (R134) and the park idle timer restarts (R65, R139). -/
def setPhase (p : Phase) (s : State) : State :=
  if p = s.steering.phase then s
  else restartIdle (judgeSettled { s with steering := { s.steering with phase := p } })

/-- The state once no transition runs: WAITING when a waiting mode is held, STEADY otherwise (R139). -/
def phaseAtRest (s : State) : Phase := if s.steering.waiting.isSome then .waiting else .steady

/-! ## Mode changes (R135 to R141) -/

/-- The reference mode: the waiting mode when one is held, otherwise the applied mode (section 7.5.1). -/
def referenceMode (s : State) : Mode := s.steering.waiting.getD s.steering.mode

/-- The transition timer, to expire transition_timeout_ms from now (R138). -/
def transitionTimer (s : State) : Option Timer := some (timerAt s.now s.cfg.steering.transitionTimeoutMs)

/-- A transition to `m` begins (R138). -/
def beginTransition (m : Mode) (s : State) : State :=
  setPhase .transition
    { s with
      steering := { s.steering with
        modeBefore := s.steering.mode
        mode := m
        waiting := if s.steering.waiting = some m then none else s.steering.waiting
        timer := transitionTimer s
        began := s.now } }

/-- A request replaces the mode of a running transition (R138). The mode before it, for MODE_APPLIED (R139), stays the one applied
when the transition began: DESIGN CHOICE (log entry 43). -/
def replaceTransition (m : Mode) (s : State) : State :=
  { s with steering := { s.steering with mode := m, waiting := none, timer := transitionTimer s } }

def setWaiting (m : Option Mode) (s : State) : State := { s with steering := { s.steering with waiting := m } }

/-- MODE_DROPPED: the mode and its reason, RELEASED (0) or PARK (1) (R199). -/
def logDropped (m : Mode) (reason : Nat) (s : State) : State := enterLog .modeDropped [m.code, reason] s

/-- MODE_FORCED: the applied mode and its reason, TIMEOUT (0) or PARK (1), and the distances (R199). -/
def logForced (reason : Nat) (s : State) : State :=
  enterLog .modeForced [s.steering.mode.code + 256 * reason, distanceF s, distanceR s] s

/-- A mode is asked for (R135 to R138). Under a HELD MODE_CHANGE it waits, whether HELD was entered from OPEN or from RELEASED
(R136): that R119's safe state does not drop it in the second case is DESIGN CHOICE (log entry 41). -/
def modeRequest (m : Mode) (s : State) : State :=
  if m = referenceMode s then s
  else
    match s.steering.phase, s.interlock.targets.modeChange with
    | .steady, .opened => beginTransition m s
    | .steady, .held => setPhase .waiting (setWaiting (some m) s)
    | .steady, .released => logDropped m 0 s
    | .waiting, _ =>
      if m = s.steering.mode then setPhase .steady (setWaiting none s) else setWaiting (some m) s
    | .transition, .opened => replaceTransition m s
    | .transition, .held => setWaiting (if m = s.steering.mode then none else some m) s
    | .transition, .released => logDropped m 0 s

/-- The controller takes a new state of MODE_CHANGE at the event (R140). -/
def modeChangeTarget (_old new : TargetState) (s : State) : State :=
  match new with
  | .held => s
  | .opened =>
    match s.steering.waiting with
    | none => s
    | some m =>
      match s.steering.phase with
      | .waiting => beginTransition m s
      | .transition => replaceTransition m s
      | .steady => s
  | .released =>
    match s.steering.waiting with
    | none => s
    | some m =>
      let s1 := logDropped m 0 (setWaiting none s)
      if s.steering.phase = .waiting then setPhase .steady s1 else s1

/-- The unit takes a new state of STEER_REAR at the event (R131). -/
def steerRearTarget (old new : TargetState) (s : State) : State :=
  { s with
    steering := { s.steering with
      freeze :=
        match new with
        | .held => if old = .opened then some s.steering.outR else none
        | .opened | .released => none } }

/-- A running transition whose outputs are both settled completes (R139). -/
def completeTransition (s : State) : State :=
  let s1 := enterLog .modeApplied [s.steering.modeBefore.code, s.steering.mode.code, elapsed s.now s.steering.began] s
  setPhase (phaseAtRest s) { s1 with steering := { s1.steering with timer := none } }

/-- The transition timer expires (R139), up to handing STEER_SETTLED on, which stays false until a frame finds both outputs
settled. -/
def forceTransition (s : State) : State :=
  let s1 := logForced 0 s
  let s2 := setPhase (phaseAtRest s) { s1 with steering := { s1.steering with timer := none } }
  { s2 with steering := { s2.steering with settled := false } }

/-- PARK entry (R141). STEER_SETTLED is judged at once on the outputs of the latest frame, as at any change of the mode-change state
(R134), also where a transition was forced: DESIGN CHOICE (log entry 44). -/
def steerPark (s : State) : State :=
  let s1 := if s.steering.phase = .transition then logForced 1 s else s
  let s2 := match s.steering.waiting with
    | some m => logDropped m 1 s1
    | none => s1
  setPhase .steady { s2 with steering := { s2.steering with timer := none, waiting := none } }

/-- A frame start (R128), up to handing STEER_SETTLED on. -/
def steerFrameStep (s : State) : State :=
  let s1 : State :=
    { s with
      steering := { s.steering with
        clock := s.steering.clock.fall s.cfg.steering.framePeriodMs
        q := s.budget.classes.steer.ratio
        settleUs := s.cfg.steering.settleUs } }
  let s2 := moveOutputs (computeTargets s1)
  if s2.steering.phase = .transition ∧ outputsSettled s2 then completeTransition s2 else judgeSettled s2

end Sys2Proof.Machine
end

