-- ==== Sys2Proof/Machine/Winch.lean ====
section
/-! DEFINITION. The Winch Controller (chapter 9): states, the bridge, freezes, jobs, the line count, stall and tension runs.
Nothing here hands WINCH_MOVING on; a caller hands it once the records of its event are in the log (R156). -/
namespace Sys2Proof.Machine

/-- What the H-bridge is given (R155). -/
inductive Bridge where
  | unpowered | brake | coast | haulAt (duty : Nat) | payoutAt (duty : Nat)
  deriving DecidableEq, Repr

/-- WA and WB: the bridge as the winch state and the effective duty drive it (R155). -/
def State.bridge (s : State) : Bridge :=
  if s.powered then
    match s.winch.st with
    | .hauling => .haulAt s.winch.eff
    | .payingOut => .payoutAt s.winch.eff
    | .free => .coast
    | .idle | .stopping | .stalled => .brake
  else .unpowered

/-- The WINCH entry is under DRIVER. -/
def State.winchDriver (s : State) : Bool := s.authority.entries.winch.claim.isNone

/-- When the last job is gone, a suspended expiry of the WINCH claim resumes with a fresh hold period (R98). -/
def resumeWinchExpiry (s : State) : State :=
  { s with
    authority := { s.authority with
      entries := { s.authority.entries with
        winch := { s.authority.entries.winch with
          claim := s.authority.entries.winch.claim.map (fun c =>
            match c.expiry with
            | none => { c with expiry := some (timerAt s.now s.cfg.authority.claimHoldMs) }
            | some _ => c) } } } }

/-! ## Changes of state -/

/-- The stall-clear neutral run, judged at entry to STALLED and at each handing-over of the WINCH command or authority
(R168). -/
def judgeNeutralRun (s : State) : State :=
  { s with
    winch := { s.winch with
      neutralRun :=
        if s.winch.st = .stalled ∧ s.winchDriver ∧ within s.authority.commands.winch s.radio.bands.winch then
          match s.winch.neutralRun with
          | some t => some t
          | none => some (timerAt s.now 300)
        else none } }

/-- A motion state. -/
def WinchState.moves : WinchState → Bool
  | .hauling | .payingOut => true
  | .idle | .stopping | .free | .stalled => false

/-- The WINCH demand of a state and a commanded duty (R178). -/
def winchDemand (limitMa : Nat) (st : WinchState) (u : Nat) : Nat := if st.moves then limitMa * u / 1000 else 0

/-- The last direction after a state is entered (R156). -/
def lastDirAfter (st : WinchState) (before : Direction) : Direction :=
  match st with
  | .hauling => .haul
  | .payingOut | .free => .payout
  | .idle | .stopping | .stalled => before

/-- The winch state becomes `st` with commanded duty `u`: the dwell starts on entry to STOPPING and is over otherwise
(R160), the stall run closes on leaving HAULING (R167), the demand is reported (R178), a state that does not move applies no
duty (R161), and the park idle timer restarts on a change (R65, R156). -/
def winchEnter (st : WinchState) (u : Nat) (s : State) : State :=
  let s1 : State :=
    { s with
      winch := { s.winch with
        st := st
        duty := if st.moves then u else 0
        eff := if st.moves then s.winch.eff else 0
        lastDir := if st = s.winch.st then s.winch.lastDir else lastDirAfter st s.winch.lastDir
        dwell :=
          if st = .stopping then (if s.winch.st = .stopping then s.winch.dwell else some (timerAt s.now 150))
          else none
        stallRun := if st = .hauling then s.winch.stallRun else none
        neutralRun := if st = .stalled then s.winch.neutralRun else none
        demand := winchDemand s.cfg.winch.winchLimitMa st u } }
  let s2 := if st = .stalled ∧ s.winch.st ≠ .stalled then judgeNeutralRun s1 else s1
  if st = s.winch.st then s2 else restartIdle s2

/-- The end of what the winch is doing: STOPPING from a motion, IDLE from FREE, unchanged otherwise (R162, R174, R175). -/
def winchStop (s : State) : State :=
  match s.winch.st with
  | .hauling | .payingOut => winchEnter .stopping 0 s
  | .free => winchEnter .idle 0 s
  | .idle | .stopping | .stalled => s

/-! ## Jobs (R170 to R177) -/

def JobKind.hauls : JobKind → Bool
  | .haulBy | .haulToTension | .haulToStow => true
  | .payoutBy | .freeFor => false

/-- The state in which a job of the kind moves (R172). That FREE is the motion of FREE_FOR, so that a pulse in it adds to the job's
moved count (R164), is DESIGN CHOICE (log entry 51). -/
def JobKind.motion : JobKind → WinchState
  | .haulBy | .haulToTension | .haulToStow => .hauling
  | .payoutBy => .payingOut
  | .freeFor => .free

/-- The running job's record: the head of the queue, while one runs. -/
def State.runningJob (s : State) : Option Job :=
  match s.winch.running with
  | some _ => s.winch.queue.head?
  | none => none

/-- QUEUE_FLUSHED, when at least one job was removed (R177). -/
def logFlushed (n : Nat) (s : State) : State := if n = 0 then s else enterLog .queueFlushed [n] s

/-- The queue becomes empty or not; when it does, the Authority Table is told (R171, R177). -/
def setQueue (q : List Job) (s : State) : State :=
  let s1 : State := { s with winch := { s.winch with queue := q, running := none } }
  if q.isEmpty then resumeWinchExpiry s1 else s1

/-- The running job ends: WINCH_JOB_END is logged, the job leaves the queue, and after an outcome other than DONE the rest
goes with it (R177). -/
def endJob (outcome : JobOutcome) (s : State) : State :=
  match s.winch.running, s.winch.queue with
  | some r, j :: rest =>
    let s1 := enterLog .winchJobEnd [j.tag, outcome.code, r.moved] s
    if outcome = .done then setQueue rest s1
    else setQueue [] (logFlushed rest.length s1)
  | _, _ => s

/-- A running job ends ABORTED and the rest is flushed; jobs not yet started are flushed without a job-end record
(R175 to R177). -/
def abortJobs (s : State) : State :=
  match s.winch.running, s.winch.queue with
  | some _, _ :: _ => endJob .aborted s
  | _, q => if q.isEmpty then s else setQueue [] (logFlushed q.length s)

/-- A revocation of the WINCH claim, WINCH_CANCEL and a CUTOFF: the winch stops what a running job does, and every job is
gone (R175, R176). -/
def revokeJobs (s : State) : State :=
  if s.winch.running.isSome then abortJobs (winchStop s) else abortJobs s

/-- A change of the effective level to CUTOFF (R162): the motion stops whoever asked for it. -/
def winchCutoff (s : State) : State := abortJobs (winchStop s)

/-- PARK entry: IDLE at once, from any state (R179). -/
def winchPark (s : State) : State := winchEnter .idle 0 (abortJobs s)

/-! ## Target states (R163) -/

def Direction.motion : Direction → WinchState
  | .haul => .hauling
  | .payout => .payingOut

def setFreeze (d : Direction) (f : Option WinchFreeze) (s : State) : State :=
  match d with
  | .haul => { s with winch := { s.winch with haulFreeze := f } }
  | .payout => { s with winch := { s.winch with payoutFreeze := f } }

/-- The running job moves in the direction. -/
def runsIn (d : Direction) (s : State) : Bool :=
  match s.runningJob with
  | some j => j.kind.motion == d.motion
  | none => false

/-- The controller takes a new state of WINCH_HAUL or WINCH_PAYOUT at the event (R163). -/
def winchTarget (d : Direction) (old new : TargetState) (s : State) : State :=
  match new with
  | .opened => setFreeze d none s
  | .held =>
    setFreeze d
      (some (if old = .opened ∧ s.winch.st = d.motion then .duty s.winch.duty else .stopped)) s
  | .released =>
    let s1 := setFreeze d none s
    let s2 := if s1.winch.st = d.motion then winchEnter .stopping 0 s1 else s1
    if runsIn d s then abortJobs s2 else s2

/-! ## Frames (R157 to R163, R172) -/

/-- A request of a frame: a direction and a duty, or NONE. -/
structure WinchRequest where
  dir  : Direction
  duty : Nat
  /-- The target lets it start a motion (R163). -/
  mayStart : Bool
  deriving DecidableEq, Repr

/-- The manual request of the WINCH command (R158). -/
def manualRequest (w : Int) (band : Nat) : Option WinchRequest :=
  if (band : Int) < w then some { dir := .haul, duty := w.natAbs, mayStart := true }
  else if w < -(band : Int) then some { dir := .payout, duty := w.natAbs, mayStart := true }
  else none

/-- The request of a running job (R172). -/
def jobRequest (j : Job) : Option WinchRequest :=
  match j.kind with
  | .haulBy | .haulToTension | .haulToStow => some { dir := .haul, duty := j.duty, mayStart := true }
  | .payoutBy => some { dir := .payout, duty := j.duty, mayStart := true }
  | .freeFor => none

/-- The request of the frame (R157, R158, R171). -/
def frameRequest (s : State) : Option WinchRequest :=
  if s.supply.state = .active then
    match s.runningJob with
    | some j => jobRequest j
    | none => if s.jobsHeld then none else manualRequest s.authority.commands.winch s.radio.bands.winch
  else none

def targetOfDir (s : State) : Direction → TargetState
  | .haul => s.interlock.targets.winchHaul
  | .payout => s.interlock.targets.winchPayout

def freezeOfDir (s : State) : Direction → Option WinchFreeze
  | .haul => s.winch.haulFreeze
  | .payout => s.winch.payoutFreeze

/-- The target states applied to the request (R163): RELEASED and the freeze *stopped* keep it from starting a motion, a
frozen duty replaces its duty. -/
def applyTargets (s : State) (r : WinchRequest) : WinchRequest :=
  match targetOfDir s r.dir with
  | .opened => r
  | .released => { r with mayStart := false }
  | .held =>
    match freezeOfDir s r.dir with
    | some (.duty f) => { r with duty := f }
    | some .stopped | none => { r with mayStart := false }

/-- The line is fully out: no pay-out starts (R159) and the count stays (R164). -/
def State.atCap (s : State) : Bool := s.cfg.winch.maxPayout ≤ s.retention.lineCount

/-- A motion may start in the direction from IDLE (R159, R162). -/
def mayEnter (s : State) (d : Direction) : Bool :=
  s.protection.effective != .cutoff && (match d with | .haul => !s.winch.stowed | .payout => !s.atCap)

/-- The state change the request calls for (R159). -/
def requestChange (r : Option WinchRequest) (s : State) : State :=
  match s.winch.st, r with
  | .idle, some q => if q.mayStart && mayEnter s q.dir then winchEnter q.dir.motion q.duty s else s
  | .hauling, some q =>
    if q.dir = .haul ∧ q.mayStart then winchEnter .hauling q.duty s else winchEnter .stopping 0 s
  | .payingOut, some q =>
    if q.dir = .payout ∧ q.mayStart then winchEnter .payingOut q.duty s else winchEnter .stopping 0 s
  | .hauling, none | .payingOut, none => winchEnter .stopping 0 s
  | .free, some _ => winchEnter .stopping 0 s
  | .free, none => if s.jobsHeld && s.winch.running.isNone then winchEnter .idle 0 s else s
  | .idle, none | .stopping, _ | .stalled, _ => s

/-- What the start of a job comes to at once, when it does not move (R172). -/
def startOutcome (s : State) (j : Job) : Option JobOutcome :=
  match j.kind with
  | .haulToStow => if s.winch.stowed then some .done else none
  | .haulBy | .haulToTension => if s.winch.stowed then some .stowed else none
  | .payoutBy | .freeFor => if s.atCap then some .limit else none

/-- The target of a job's direction is OPEN; FREE_FOR needs neither (R172). -/
def jobTargetOpen (s : State) (k : JobKind) : Bool :=
  match k with
  | .haulBy | .haulToTension | .haulToStow => s.interlock.targets.winchHaul == .opened
  | .payoutBy => s.interlock.targets.winchPayout == .opened
  | .freeFor => true

/-- The head job starts (R172). No frame starts one in CUTOFF, where no job is held (R162). -/
def startHead (s : State) : State :=
  match s.winch.running, s.winch.queue with
  | none, j :: _ =>
    if s.supply.state = .active ∧ s.winch.st = .idle ∧ jobTargetOpen s j.kind ∧ s.protection.effective ≠ .cutoff then
      let run : JobRun :=
        { moved := 0, timeout := timerAt s.now j.timeout
          freeFor := if j.kind = .freeFor then some (timerAt s.now (j.amount.getD 0)) else none
          tension := none }
      let s1 : State := { s with winch := { s.winch with running := some run } }
      match startOutcome s j with
      | some o => endJob o s1
      | none => winchEnter j.kind.motion j.duty s1
    else s
  | _, _ => s

/-- The effective duty of a motion (R161). -/
def effectiveDuty (s : State) : Nat :=
  if s.winch.st.moves then
    let v := scale s.winch.duty s.winch.q
    let limit := s.cfg.winch.limpWinchPct * 10
    let capped := if s.winch.st = .hauling ∧ s.protection.effective = .limp ∧ limit < v then limit else v
    if s.tripActive then 0 else capped
  else 0

/-- A frame start (R157), up to handing WINCH_MOVING on. -/
def winchFrameStep (s : State) : State :=
  let s1 : State :=
    { s with winch := { s.winch with clock := s.winch.clock.fall 10, q := s.budget.classes.winch.ratio } }
  let s2 := startHead (requestChange ((frameRequest s1).map (applyTargets s1)) s1)
  { s2 with
    winch := { s2.winch with
      eff := effectiveDuty s2
      demand := winchDemand s2.cfg.winch.winchLimitMa s2.winch.st s2.winch.duty } }

/-! ## The line count (R164, R165, R173) -/

/-- The direction a pulse is credited to (R164). -/
def pulseDirection (s : State) : Direction :=
  match s.winch.st with
  | .hauling => .haul
  | .payingOut | .free => .payout
  | .idle | .stopping | .stalled => s.winch.lastDir

/-- The count after a pulse (R164). -/
def countAfter (s : State) : Nat :=
  match pulseDirection s with
  | .haul => s.retention.lineCount - 1
  | .payout => if s.atCap then s.retention.lineCount else s.retention.lineCount + 1

/-- The moved count of a job whose motion the winch is in rises by 1 (R164). -/
def countMoved (s : State) : State :=
  match s.winch.running, s.winch.queue with
  | some r, j :: _ =>
    if j.kind.motion = s.winch.st then
      { s with winch := { s.winch with running := some { r with moved := r.moved + 1 } } }
    else s
  | _, _ => s

/-- The running job has moved its amount (R173). -/
def amountMoved (s : State) : Bool :=
  match s.winch.running, s.winch.queue with
  | some r, j :: _ =>
    (j.kind == .haulBy || j.kind == .payoutBy) && j.kind.motion == s.winch.st && j.amount == some r.moved
  | _, _ => false

/-- A pulse on ENC (R164, R165, R173), up to handing WINCH_MOVING on. -/
def encPulseStep (s : State) : State :=
  let wasAtCap := s.atCap
  let s1 := countMoved { s with retention := { s.retention with lineCount := countAfter s } }
  let reached := !wasAtCap && s1.atCap && (s.winch.st == .payingOut || s.winch.st == .free)
  let done := amountMoved s1
  let runs := s1.winch.running.isSome
  let s2 := if reached || done then winchStop s1 else s1
  let s3 := if reached then enterLog .payoutLimit [s.cfg.winch.maxPayout] s2 else s2
  if done then endJob .done s3 else if reached && runs then endJob .limit s3 else s3

/-! ## The hook (R166, R173) -/

/-- HOOK_STOWED becomes `v` (R166), up to handing the conditions on: becoming true zeroes the count, and in HAULING stops the
winch, logs HOOK_SEATED and ends a haul job. -/
def hookChange (v : Bool) (s : State) : State :=
  let s1 : State := { s with winch := { s.winch with stowed := v } }
  if v then
    let before := s.retention.lineCount
    let s2 : State := { s1 with retention := { s1.retention with lineCount := 0 } }
    if s.winch.st = .hauling then
      let s3 := enterLog .hookSeated [before] (winchEnter .stopping 0 s2)
      match s.runningJob with
      | some j =>
        match j.kind with
        | .haulToStow => endJob .done s3
        | .haulBy | .haulToTension => endJob .stowed s3
        | .payoutBy | .freeFor => s3
      | none => s3
    else s2
  else s1

/-! ## Sample sets (R167, R173) -/

/-- The tension run of a HAUL_TO_TENSION job, judged on a set: whether it completes, and the run after (R173). -/
def tensionJudge (s : State) : Bool × Option Time :=
  match s.winch.running, s.winch.queue with
  | some r, j :: _ =>
    if j.kind = .haulToTension ∧ s.winch.st = .hauling then
      if j.amount.getD 0 ≤ s.monitor.latest.iWinch then
        match r.tension with
        | none => (false, some s.now)
        | some t => (200 ≤ elapsed s.now t, some t)
      else (false, none)
    else (false, none)
  | _, _ => (false, none)

/-- The conditions on which a set opens or continues the stall run (R167). -/
def stallHolds (s : State) : Bool :=
  s.winch.st == .hauling && 100 ≤ s.winch.eff && s.cfg.winch.stallMa ≤ s.monitor.latest.iWinch

/-- The stall run judged on a set completed in ACTIVE (R167). -/
def stallJudge (s : State) : State :=
  if stallHolds s then
    match s.winch.stallRun with
    | none => { s with winch := { s.winch with stallRun := some s.now } }
    | some t =>
      if s.cfg.winch.stallMs ≤ elapsed s.now t then
        let s1 := enterLog .winchStall [s.monitor.latest.iWinch, s.retention.lineCount] (winchEnter .stalled 0 s)
        endJob .stalled s1
      else s
  else { s with winch := { s.winch with stallRun := none } }

/-- What a set completed in ACTIVE does to the winch, up to handing WINCH_MOVING on: the tension first, then the stall
(R173). -/
def winchSet (s : State) : State :=
  let t := tensionJudge s
  let s1 : State :=
    { s with winch := { s.winch with running := s.winch.running.map (fun r => { r with tension := t.2 }) } }
  if t.1 then endJob .done (winchStop s1) else stallJudge s1

/-! ## FREE and clearing a stall (R168, R169) -/

/-- WINCH_CLEAR in STALLED (R168). -/
def clearStall (s : State) : State := winchEnter .idle 0 s

/-- The WINCH_FREE gesture action (R169). -/
def toggleFree (s : State) : State :=
  if s.jobsHeld then s
  else
    match s.winch.st with
    | .idle => if s.atCap then s else winchEnter .free 0 s
    | .free => winchEnter .idle 0 s
    | .hauling | .payingOut | .stopping | .stalled => s

end Sys2Proof.Machine
end

