-- ==== Sys2Proof/Machine/Interlock.lean ====
section
/-! DEFINITION. The Interlock Unit (chapter 6): the evaluation of a change of conditions, and handing target states to their
owners. An owner's own change of WINCH_MOVING or STEER_SETTLED under a new target state is a new event, evaluated after the
evaluation that caused it (R115). -/
namespace Sys2Proof.Machine

/-- A change of conditions handed to the unit together (R110). -/
abbrev Changes := List (Cond × Bool)

/-- What is a change against the copy; a condition left at its value hands nothing (R110). -/
def realChanges (k : Conds) (ch : Changes) : Changes := ch.filter (fun p => k.get p.1 != p.2)

def applyChanges (k : Conds) (ch : Changes) : Conds := ch.foldl (fun k p => k.set p.1 p.2) k

/-- A term of the latch names a changed condition (R121). -/
def latchReads (l : Latch) (ch : Changes) : Bool :=
  let names (t : Option GateTerm) : Bool :=
    match t with
    | some t => ch.any (fun p => p.1 == t.cond)
    | none => false
  names l.set || names l.reset

/-- The latches judged against the updated copy (R114 step 2, R121). -/
def judgeLatches (w : InterlockSettings) (ch : Changes) (k : Conds) : Conds :=
  { k with
    latchA := if latchReads w.latchA ch then w.latchA.judge k k.latchA else k.latchA
    latchB := if latchReads w.latchB ch then w.latchB.judge k k.latchB else k.latchB }

/-- The gate results and target states that a copy of the conditions gives (R112, R113). A gate that reads no changed
condition keeps its result, so judging every gate is judging those that do (R114 steps 3 and 4). -/
def derive (w : InterlockSettings) (k : Conds) : Interlock :=
  let closed := w.gates.map (fun g => g.isClosed k)
  { conds := k, closed := closed, targets := PerTarget.tabulate (targetStateOf w.gates closed) }

/-- TARGET_RELEASED for a target that has entered RELEASED from `old` (R117). -/
def logReleased (old : PerTarget TargetState) (t : Target) (s : State) : State :=
  if s.interlock.targets.get t = .released ∧ old.get t ≠ .released then
    enterLog .targetReleased
      [t.code, releasingGate s.cfg.interlock.gates s.interlock.closed t, (old.get t).code] s
  else s

/-- The owner of a target takes its new state (R114 step 6). -/
def ownerTakes (t : Target) (old new : TargetState) (s : State) : State :=
  match t with
  | .driveFwd => driveFwdTarget old new s
  | .driveRev => driveRevTarget old new s
  | .steerRear => steerRearTarget old new s
  | .modeChange => modeChangeTarget old new s
  | .winchHaul => winchTarget .haul old new s
  | .winchPayout => winchTarget .payout old new s
  | .sceneLights => lightsRefresh (lightsTarget old new s)

/-- A target whose state changed is handed to its owner; one whose state is what it was is not (R114). -/
def handTarget (old : PerTarget TargetState) (t : Target) (s : State) : State :=
  if s.interlock.targets.get t = old.get t then s else ownerTakes t (old.get t) (s.interlock.targets.get t) s

/-- The records of an evaluation, in the order of R117, and then the handing over. R114 gives the owners no order; that they take
their targets in R117's order too is DESIGN CHOICE (log entry 40). -/
def settleTargets (old : PerTarget TargetState) (s : State) : State :=
  allTargets.foldl (fun s t => handTarget old t s) (allTargets.foldl (fun s t => logReleased old t s) s)

/-- One evaluation of a change (R114). -/
def evaluate (ch : Changes) (s : State) : State :=
  let k := judgeLatches s.cfg.interlock ch (applyChanges s.interlock.conds ch)
  settleTargets s.interlock.targets { s with interlock := derive s.cfg.interlock k }

/-- An evaluation, and then those of the changes that the owners made under it (R115). R116 lets either of two owners' changes be
first: that WINCH_MOVING, with all that follows from it, comes before STEER_SETTLED is DESIGN CHOICE (log entry 55). A target state
can stop the winch and begin a transition, each once, so few rounds are ever made. -/
def cascade : Nat → Changes → State → State
  | 0, _, s => s
  | n + 1, ch, s =>
    match realChanges s.interlock.conds ch with
    | [] => s
    | ch' =>
      let s1 := evaluate ch' s
      let s2 := cascade n [(.winchMoving, s1.winchMoving)] s1
      cascade n [(.steerSettled, s2.steering.settled)] s2

/-- An owner hands a change of its conditions to the Interlock Unit; the Light Controller takes what comes of it. So an event that
both changes an overlay input and makes SCENE_LIGHTS HELD freezes what the channels showed before it: DESIGN CHOICE (log entry
45). -/
def notify (ch : Changes) (s : State) : State := lightsRefresh (cascade 6 ch s)

/-- The Winch Controller hands WINCH_MOVING on (R156). -/
def notifyWinch (s : State) : State := notify [(.winchMoving, s.winchMoving)] s

/-- The Steering Unit hands STEER_SETTLED on (R134). -/
def notifySteering (s : State) : State := notify [(.steerSettled, s.steering.settled)] s

/-- A write of a gate or latch entry: every gate is judged against the copy, the target states derived, the changes logged
and handed (R126), and what the owners then change is evaluated (R115), WINCH_MOVING before STEER_SETTLED: DESIGN CHOICE (log entry
55). -/
def reevaluate (k : Conds) (s : State) : State :=
  let s1 := settleTargets s.interlock.targets { s with interlock := derive s.cfg.interlock k }
  let s2 := cascade 6 [(.winchMoving, s1.winchMoving)] s1
  lightsRefresh (cascade 6 [(.steerSettled, s2.steering.settled)] s2)

end Sys2Proof.Machine
end

