-- ==== Sys2Proof/WellFormed.lean ====
section
/-! DEFINITION. Which commands can occur. A request is complete when as many parameter bytes were received as its length byte
gives, and a length byte gives at most 255 (R204); a code outside the catalogue is not one of 0x01 to 0x15 (section 12.2); an
incomplete transaction is shorter than its request; a lockout's neutral run belongs to a proportional function and its end
time to a switch function (R103). -/
namespace Sys2Proof

/-- The length byte can say how many parameter bytes there are. -/
def Request.wf (r : Request) : Bool := r.params.length ≤ 255

/-- The codes of the catalogue, counted from 0x01 (section 12.2). -/
def catalogueCode (c : Byte) : Bool := 1 ≤ c.toNat && c.toNat ≤ 21

/-- Whether the bytes shifted in since chip select was asserted hold a complete request (R204): the code byte, the length
byte and as many parameter bytes as it gives. -/
def completeRequest : List Byte → Bool
  | _ :: len :: params => len.toNat ≤ params.length
  | _ => false

/-- THROTTLE, STEER and WINCH are the proportional functions (R103). -/
def Fn.proportional : Fn → Bool
  | .throttle | .steer | .winch => true
  | .steerMode | .lights => false

/-- The commands that can occur. -/
def Instr.wf : Instr → Bool
  | .nop r | .readStatus r | .readPack r | .readAllotment r | .readCommands r | .claim r | .release r
  | .winchJob r | .winchCancel r | .winchClear r | .hazard r | .ackLocate r | .limpHome r | .park r
  | .readLog r | .readSetting r | .writeSetting r | .commit r | .restoreDefaults r | .clearCauses r
  | .restart r => r.wf
  | .unknownRequest c r => !catalogueCode c && r.wf
  | .incompleteTransaction bytes => !completeRequest bytes
  | .lockoutNeutralRunExpiry f => f.proportional
  | .switchLockoutExpiry f => !f.proportional
  | .sampleSet .. | .tripHoldExpiry | .tripLimpExpiry | .limpHomePeriodExpiry | .packAttach .. | .packRemoved ..
  | .retentionLoss _ | .backupMeasurement _ | .srvPgChange _ | .railWaitExpiry | .parkIdleExpiry | .radioFrame ..
  | .holdTimerExpiry | .failsafeTimerExpiry | .telemetryReply _ | .claimExpiry _ | .steerFrame
  | .transitionTimerExpiry | .escFrame | .winchFrame | .stoppingDwellExpiry | .encPulse | .hookDebounceExpiry
  | .stallNeutralRunExpiry | .jobTimeout | .freeForExpiry | .patternStep _ | .blinkerStep | .tiltDebounceExpiry
  | .tiltArmingExpiry | .linkArmingExpiry | .assistWindowExpiry | .commitEnd _ | .backupCellFitted
  | .hookInputChange _ | .tiltInputChange _ => true

end Sys2Proof
end

