-- ==== Sys2Proof/Machine/Authority.lean ====
section
/-! DEFINITION. The Authority Table (chapter 5): forming the five function commands, ending claims, takeover, lockouts, and the
handing-over of driver values. -/
namespace Sys2Proof.Machine

/-! ## Function commands (R91 to R93) -/

/-- The merged value of a proportional function: the driver value under DRIVER, and what the kind of claim makes of it
(R91). -/
def mergeProportional (blendLimit : Nat) (d : Int) (claim : Option Claim) : Int :=
  match claim with
  | none => d
  | some c =>
    match c.kind with
    | .full => c.value
    | .blend => clampI (-1000) 1000 (d + clampI (-(blendLimit : Int)) blendLimit c.value)
    | .cap => if (d.natAbs : Int) ≤ c.value then d else if d < 0 then -c.value else c.value

/-- The mode command (R91). -/
def mergeMode (d : Mode) (claim : Option Claim) : Mode :=
  match claim with
  | none => d
  | some c => (modeOfCode c.value.toNat).getD d

/-- The scene command (R91). -/
def mergeScene (d : Nat) (claim : Option Claim) : Nat :=
  match claim with
  | none => d
  | some c => c.value.toNat

/-- The five commands, from the entries and the driver values last handed over (R91). -/
def formCommands (s : State) : Commands :=
  let e := s.authority.entries
  let d := s.radio.driver
  let b := s.cfg.authority.blendLimit
  { throttle := mergeProportional b d.throttle e.throttle.claim
    steer := mergeProportional b d.steer e.steer.claim
    mode := mergeMode d.mode e.steerMode.claim
    winch := mergeProportional b d.winch e.winch.claim
    scene := mergeScene d.scene e.lights.claim }

/-- The commands formed, and THROTTLE_NEUTRAL judged on them (R92, R93). -/
def setCommands (s : State) : State :=
  let k := formCommands s
  { s with
    authority := { s.authority with commands := k, neutral := within k.throttle s.radio.bands.throttle } }

/-- The STEER_MODE command handed to the Steering Unit: a change of it in ACTIVE is judged as a request (R135). -/
def handMode (before : Mode) (s : State) : State :=
  if s.authority.commands.mode ≠ before ∧ s.supply.state = .active then modeRequest s.authority.commands.mode s else s

/-- A recomputation (R92): the commands formed, a change of THROTTLE_NEUTRAL evaluated at once (R93), the commands handed to
the Steering Unit, the Winch Controller and the Light Controller. -/
def recompute (s : State) : State :=
  let s1 := setCommands s
  let s2 := notify [(.throttleNeutral, s1.authority.neutral)] s1
  notifySteering (judgeTurns (judgeNeutralRun (handMode s.authority.commands.mode s2)))

/-! ## Ends of claims (R97, R99, R100, R104 to R106) -/

/-- The claim on a function ends: the entry returns to DRIVER and CLAIM_END is logged with the function, the kind and the
reason (R105). -/
def endClaim (reason : ClaimEnd) (f : Fn) (s : State) : State :=
  let e := s.authority.entries.get f
  match e.claim with
  | none => s
  | some c =>
    enterLog .claimEnd [fnCode f, c.kind.code, reason.code]
      { s with
        authority := { s.authority with entries := s.authority.entries.set f { e with claim := none } } }

/-- When the claim on WINCH ended in an event, the jobs held are revoked in the same event (R105, R176) and WINCH_MOVING is
handed after their records (R156). -/
def revokeIfEnded (before : State) (s : State) : State :=
  if before.authority.entries.winch.claim.isSome && s.authority.entries.winch.claim.isNone then
    notifyWinch (revokeJobs s)
  else s

/-- The claims on THROTTLE and WINCH end when the link state is other than UP (R104). -/
def linkEnds (s : State) : State :=
  if s.radio.link = .up then s else endClaim .link .winch (endClaim .link .throttle s)

/-- The driver value of a function, with mode and scene as their codes (R94). -/
def driverValue (s : State) (f : Fn) : Int :=
  match f with
  | .throttle => s.radio.driver.throttle
  | .steer => s.radio.driver.steer
  | .steerMode => s.radio.driver.mode.code
  | .winch => s.radio.driver.winch
  | .lights => s.radio.driver.scene

/-- The switch position of a switch function. -/
def switchPosition (d : DriverValues) (f : Fn) : Option Position :=
  match f with
  | .steerMode => some d.modePos
  | .lights => some d.lightsPos
  | .throttle | .steer | .winch => none

/-- The driver takes a function over: by moving a stick further than takeover_delta from the reference (R101), by a change of
switch position on this handing-over, or by a position other than the one the reference came from (R102). -/
def takenOver (before : DriverValues) (s : State) (f : Fn) (c : Claim) : Bool :=
  if f.proportional then s.cfg.authority.takeoverDelta < (driverValue s f - c.reference).natAbs
  else
    switchPosition before f != switchPosition s.radio.driver f || c.refPos != switchPosition s.radio.driver f

/-- The lockout that a takeover begins (R103). -/
def newLockout (s : State) (f : Fn) : Lockout :=
  { began := s.now
    ends := if f.proportional then none else some (timerAt s.now s.cfg.authority.lockoutMs)
    run := none }

def setLockout (f : Fn) (l : Option Lockout) (s : State) : State :=
  { s with
    authority := { s.authority with
      entries := s.authority.entries.set f { s.authority.entries.get f with lockout := l } } }

/-- Takeover of one function, judged in UP (R100). -/
def judgeTakeover (before : DriverValues) (f : Fn) (s : State) : State :=
  match (s.authority.entries.get f).claim with
  | none => s
  | some c =>
    if s.radio.link = .up ∧ takenOver before s f c then
      setLockout f (some (newLockout s f)) (endClaim .takeover f s)
    else s

/-- The neutral band in force of a proportional function (R76). -/
def bandOf (s : State) : Fn → Nat
  | .throttle => s.radio.bands.throttle
  | .steer => s.radio.bands.steer
  | .winch => s.radio.bands.winch
  | .steerMode | .lights => 0

/-- The neutral run of a proportional function's lockout, judged on a handing-over (R103). -/
def judgeLockoutRun (f : Fn) (s : State) : State :=
  match (s.authority.entries.get f).lockout with
  | none => s
  | some l =>
    if within (driverValue s f) (bandOf s f) then
      match l.run with
      | some _ => s
      | none => setLockout f (some { l with run := some (timerAt s.now 200) }) s
    else setLockout f (some { l with run := none }) s

/-- The Radio Link Port hands the driver values over (R92): ends by link, takeovers, neutral runs, then the commands.
`before` holds the positions before the frame. Where a revoked winch job and THROTTLE_NEUTRAL both change a condition,
WINCH_MOVING reaches the Interlock Unit first: DESIGN CHOICE (log entry 39). -/
def handOver (before : DriverValues) (s : State) : State :=
  let s1 := allFns.foldl (fun s f => judgeTakeover before f s) (linkEnds s)
  let s2 := [Fn.throttle, .steer, .winch].foldl (fun s f => judgeLockoutRun f s) s1
  recompute (revokeIfEnded s s2)

/-- A claim ends by itself or by RELEASE, and the command is recomputed (R97, R99). -/
def endClaimAlone (reason : ClaimEnd) (f : Fn) (s : State) : State :=
  recompute (revokeIfEnded s (endClaim reason f s))

/-! ## Taking a claim (R94 to R96) -/

def setClaim (f : Fn) (c : Claim) (s : State) : State :=
  { s with
    authority := { s.authority with
      entries := s.authority.entries.set f { s.authority.entries.get f with claim := some c } } }

/-- The expiry of a claim taken or refreshed now: suspended on WINCH while jobs are held (R97, R98). -/
def claimExpiryFor (s : State) (f : Fn) : Option Timer :=
  if f = .winch ∧ s.jobsHeld then none else some (timerAt s.now s.cfg.authority.claimHoldMs)

/-- A new claim (R94): the reference is the present driver value, or 0 for WINCH. -/
def takeClaim (f : Fn) (kind : ClaimKind) (value : Int) (s : State) : State :=
  recompute
    (setClaim f
      { kind := kind, value := value, reference := if f = .winch then 0 else driverValue s f
        refPos := switchPosition s.radio.driver f, refreshed := s.now, expiry := claimExpiryFor s f } s)

/-- A refresh (R95): it keeps the reference. -/
def refreshClaim (f : Fn) (c : Claim) (kind : ClaimKind) (value : Int) (s : State) : State :=
  recompute (setClaim f { c with kind := kind, value := value, refreshed := s.now, expiry := claimExpiryFor s f } s)

/-- The acceptance of a winch job, handed to the table (R96, R98): under DRIVER a FULL claim at 0 is taken; either way the
expiry is suspended. -/
def claimForJob (s : State) : State :=
  match s.authority.entries.winch.claim with
  | none =>
    recompute
      (setClaim .winch
        { kind := .full, value := 0, reference := 0, refPos := none, refreshed := s.now, expiry := none } s)
  | some c => setClaim .winch { c with expiry := none } s

end Sys2Proof.Machine
end

