-- ==== Sys2Proof/Machine/Budget.lean ====
section
/-! DEFINITION. The Current Budget Unit (chapter 2): floor, headroom, demands, grants and ratios of an allotment. -/
namespace Sys2Proof.Machine

/-- The raise of the floor at a level (R29). -/
def floorRaise (w : BudgetSettings) (l : Level) : Nat :=
  match l with
  | .normal => 0
  | .conserve => w.conserveRaise
  | .limp | .cutoff => w.limpRaise

/-- V_floor (R29). -/
def vFloorOf (w : BudgetSettings) (cells : Nat) (l : Level) : Nat := cells * (w.floorMv + floorRaise w l)

/-- The headroom (R30). -/
def headroomOf (ceilingMa vComp vFloor r : Nat) : Nat :=
  if vComp ≤ vFloor then 0
  else
    let h := (vComp - vFloor) * 1000 / r
    if ceilingMa < h then ceilingMa else h

/-- The STEER demand: the mean of the recent servo-rail currents, floor (R32). -/
def steerDemand (servo : List Nat) : Nat := servo.sum / servo.length

/-- A demand as the unit takes it: 0 to 65,535 mA (R31). -/
def takenDemand (d : Nat) : Nat := if d ≤ 65535 then d else 65535

/-- The five demands, with the overrides of R35 after the clamp (R31 to R35). -/
def demandsOf (s : State) (supply : SupplyState) (level : Level) : PerClass Nat :=
  let steer := takenDemand (steerDemand s.monitor.servo)
  let signal := takenDemand s.lights.signalDemand
  let located := takenDemand s.lights.locatePart
  let drive := takenDemand s.drive.demand
  let winch := takenDemand s.winch.demand
  let scene := takenDemand s.lights.sceneDemand
  match supply, level with
  | .qualify, _ | .retain, _ => { steer := steer, signal := 0, drive := 0, winch := 0, scene := 0 }
  | .park, _ | .active, .cutoff => { steer := steer, signal := located, drive := 0, winch := 0, scene := 0 }
  | .active, .normal => { steer := steer, signal := signal, drive := drive, winch := winch, scene := scene }
  | .active, .conserve | .active, .limp =>
    { steer := steer, signal := signal, drive := drive, winch := winch, scene := 0 }

/-- The first pass: each class in order the least of its demand, its reserve and what remains (R36). A class of `fixed` is
skipped. The result pairs the grants with what remains. -/
def firstPass (d r : PerClass Nat) (trip : Bool) (h : Nat) : PerClass Nat × Nat :=
  let least (a b c : Nat) : Nat := Nat.min a (Nat.min b c)
  let g1 := least d.steer r.steer h
  let g2 := least d.signal r.signal (h - g1)
  let g3 := if trip then 0 else least d.drive r.drive (h - g1 - g2)
  let g4 := if trip then 0 else least d.winch r.winch (h - g1 - g2 - g3)
  let g5 := least d.scene r.scene (h - g1 - g2 - g3 - g4)
  ({ steer := g1, signal := g2, drive := g3, winch := g4, scene := g5 }, h - g1 - g2 - g3 - g4 - g5)

/-- The second pass: each class in order up to its demand, from what remains (R37). -/
def secondPass (d g : PerClass Nat) (trip : Bool) (rem : Nat) : PerClass Nat :=
  let a1 := Nat.min (d.steer - g.steer) rem
  let a2 := Nat.min (d.signal - g.signal) (rem - a1)
  let a3 := if trip then 0 else Nat.min (d.drive - g.drive) (rem - a1 - a2)
  let a4 := if trip then 0 else Nat.min (d.winch - g.winch) (rem - a1 - a2 - a3)
  let a5 := Nat.min (d.scene - g.scene) (rem - a1 - a2 - a3 - a4)
  { steer := g.steer + a1, signal := g.signal + a2, drive := g.drive + a3, winch := g.winch + a4,
    scene := g.scene + a5 }

/-- The grants of an allotment (R36 to R38). -/
def grantsOf (d r : PerClass Nat) (trip : Bool) (h : Nat) : PerClass Nat :=
  let p := firstPass d r trip h
  secondPass d p.1 trip p.2

/-- The ratio of a demand and a grant (R40). -/
def ratioOf (demand grant : Nat) : Nat := if demand = 0 then 256 else Nat.min 256 (grant * 256 / demand)

/-- The shares of the five classes: while the trip condition is true, DRIVE and WINCH have ratio 0 (R40). -/
def sharesOf (d g : PerClass Nat) (trip : Bool) : PerClass ClassShare :=
  { steer := { demand := d.steer, grant := g.steer, ratio := ratioOf d.steer g.steer }
    signal := { demand := d.signal, grant := g.signal, ratio := ratioOf d.signal g.signal }
    drive := { demand := d.drive, grant := g.drive, ratio := if trip then 0 else ratioOf d.drive g.drive }
    winch := { demand := d.winch, grant := g.winch, ratio := if trip then 0 else ratioOf d.winch g.winch }
    scene := { demand := d.scene, grant := g.scene, ratio := ratioOf d.scene g.scene } }

/-- The allotment of the latest set, as if completed in `supply` (R27 to R41). -/
def allotmentOf (s : State) (supply : SupplyState) : Allotment :=
  let w := s.cfg.budget
  let level := s.protection.effective
  let cells := identityCells s.retention.identity
  let vFloor := vFloorOf w cells level
  let h := headroomOf w.ceilingMa s.monitor.latest.vComp vFloor s.estimate
  let d := demandsOf s supply level
  let g := grantsOf d w.reserve s.tripActive h
  { time := s.monitor.latest.time, supply := supply, level := level, cells := cells, vComp := s.monitor.latest.vComp,
    vFloor := vFloor, headroom := h, tripFixed := s.tripActive, classes := sharesOf d g s.tripActive }

/-- The allotment is computed and published; the new record replaces the previous one as a whole (R27, R41). -/
def publishAllotment (s : State) : State := { s with budget := allotmentOf s s.supply.state }

end Sys2Proof.Machine
end

