-- ==== Sys2Proof/Machine/Protection.lean ====
section
/-! DEFINITION. The Protection Controller (sections 1.6 to 1.9) and the locate latch that a CUTOFF arms (section 10.7): the
level timers judged on a set, the effective level and what a change of it does at its event, limp-home. -/
namespace Sys2Proof.Machine

/-! ## The locate latch (R194, R195) -/

/-- A cause arms (R194): a clear latch is set and LOCATE_ARMED logged; a set latch stays as it is. -/
def armLocate (cause : LocateCause) (s : State) : State :=
  if s.lights.locate then s
  else
    notify [(.locateActive, true)]
      (enterLog .locateArmed [cause.code] { s with lights := { s.lights with locate := true } })

/-- An acknowledgement in the set state (R195). -/
def acknowledgeLocate (origin : Origin) (s : State) : State :=
  notify [(.locateActive, false)]
    (enterLog .locateAck [origin.code] { s with lights := { s.lights with locate := false } })

/-! ## The effective level (R19, R20) -/

/-- The components of the effective level: the voltage level, the energy level, and whether trip-LIMP runs. -/
structure Components where
  voltage : Level
  energy  : Level
  trip    : Bool
  deriving DecidableEq, Repr

def State.components (s : State) : Components :=
  { voltage := s.voltageLevel, energy := s.protection.energy, trip := s.tripLimp }

def tripLevel (trip : Bool) : Level := if trip then .limp else .normal

/-- The effective level: the worst of the three (R19). -/
def Components.effective (c : Components) : Level :=
  Level.worst (Level.worst c.voltage c.energy) (tripLevel c.trip)

/-- The cause of a change to `new` (R19). `floor` and `limpHome` say that the hard floor, or a grant or end of limp-home,
moved the voltage level in this event. A worsening takes the component that now holds the new level; an improvement the
component that held a worse one before. So an improvement that a change to BENCH makes through the energy level alone has cause
ENERGY: DESIGN CHOICE (log entry 37). -/
def levelCause (old new : Level) (before after : Components) (floor limpHome : Bool) : LevelCause :=
  if new.worse old then
    if after.voltage = new then (if floor then .floor else if limpHome then .limpHome else .voltage)
    else if after.energy = new then .energy
    else .trip
  else
    if before.voltage.worse new then (if limpHome then .limpHome else .voltage)
    else if before.energy.worse new then .energy
    else .trip

/-- What a change of the effective level does at its event in any supply state: the interlock conditions (R20), and the winch's
and the drive's stop at CUTOFF (R162, R150). -/
def takeLevel (s : State) : State :=
  let l := s.protection.effective
  let s1 := notify [(.levelReduced, l.reduced), (.levelLimp, l.isLimp)] s
  if l = .cutoff then lightsRefresh (driveNeutral (notifyWinch (winchCutoff s1))) else s1

/-- What a change of the effective level does while the part runs: the stops of `takeLevel`, and then the CUTOFF arm of the
locate latch (R194). -/
def levelChanged (s : State) : State :=
  let s1 := takeLevel s
  if s.protection.effective = .cutoff ∧ s1.running then armLocate .cutoff s1 else s1

/-- The effective level is recomputed (R19); a change is logged and takes effect. -/
def recomputeLevel (before : Components) (floor limpHome : Bool) (s : State) : State :=
  let old := s.protection.effective
  let new := s.components.effective
  if new = old then s
  else
    levelChanged
      (enterLog .levelChange [old.code, new.code, (levelCause old new before s.components floor limpHome).code]
        { s with protection := { s.protection with effective := new } })

def setVoltageLevel (l : Level) (s : State) : State := updateIdentity (fun i => { i with level := l }) s

/-! ## The level timers, judged on a set (R14 to R16) -/

/-- A falling timer after a set, and whether it completes on it (R14). -/
def fallingJudge (now : Time) (t : Falling) (below : Bool) (dwell : Nat) : Falling × Bool :=
  if below then
    match t with
    | .stopped => (.running now, false)
    | .running st => if dwell ≤ elapsed now st then (.complete, true) else (.running st, false)
    | .complete => (.complete, false)
  else (.stopped, false)

/-- The level drops to `target` when it is worse than the present one (R14). -/
def dropTo (target : Level) (fires : Bool) (s : State) : State :=
  if fires && target.worse s.voltageLevel then
    setVoltageLevel target { s with protection := { s.protection with rising := none } }
  else s

/-- The three falling timers (R14); the cutoff timer is suspended while a limp-home period runs (R22). -/
def fallingTimers (s : State) : State :=
  let w := s.cfg.pack
  let v := s.monitor.latest.vCell
  let p := s.protection
  let c := fallingJudge s.now p.conserveT (v < w.conserveMv) 3000
  let l := fallingJudge s.now p.limpT (v < w.limpMv) 2000
  let k := if s.limpHomeRuns then (p.cutoffT, false) else fallingJudge s.now p.cutoffT (v < w.cutoffMv) 1000
  dropTo .cutoff k.2
    (dropTo .limp l.2
      (dropTo .conserve c.2
        { s with protection := { p with conserveT := c.1, limpT := l.1, cutoffT := k.1 } }))

/-- The bound of the rising timer, in the levels in which it runs (R15). -/
def risingBound (s : State) : Option Nat :=
  if s.limpHomeRuns then none
  else
    match s.voltageLevel with
    | .conserve => some (s.cfg.pack.conserveMv + s.cfg.pack.hystMv)
    | .limp => some (s.cfg.pack.limpMv + s.cfg.pack.hystMv)
    | .normal | .cutoff => none

/-- One step up (R15). -/
def Level.better : Level → Level
  | .limp => .conserve
  | .conserve => .normal
  | .normal => .normal
  | .cutoff => .cutoff

def setRising (t : Option Time) (s : State) : State := { s with protection := { s.protection with rising := t } }

/-- The rising timer (R15). A level that `fallingTimers` has just changed stops it, and V_cell is then below its bound. -/
def risingTimer (s : State) : State :=
  match risingBound s with
  | none => setRising none s
  | some bound =>
    if s.monitor.latest.vCell < bound then setRising none s
    else
      match s.protection.rising with
      | none => setRising (some s.now) s
      | some t =>
        if 5000 ≤ elapsed s.now t then setRising none (setVoltageLevel s.voltageLevel.better s) else s

/-- The hard floor (R16), judged on V_meas in either protection mode: whether it made the level CUTOFF on this set. -/
def floorFires (s : State) : Bool :=
  match s.protection.floorT with
  | some t => s.monitor.latest.vMeas / identityCells s.retention.identity < s.cfg.pack.absFloorMv && 100 ≤ elapsed s.now t
  | none => false

/-- The floor timer after a set (R16). -/
def floorTimer (s : State) : State :=
  let below := s.monitor.latest.vMeas / identityCells s.retention.identity < s.cfg.pack.absFloorMv
  let t :=
    if below then
      match s.protection.floorT with
      | none => some s.now
      | some t => if 100 ≤ elapsed s.now t then some s.now else some t
    else none
  let s1 : State := { s with protection := { s.protection with floorT := t } }
  if floorFires s then
    updateIdentity (fun i => { i with level := .cutoff, limpPeriod := none }) (setRising none s1)
  else s1

/-- A change of protection mode takes effect on a set (R23): in BENCH a level of CONSERVE, or LIMP without a limp-home period,
becomes NORMAL and the timers stop; in ACTIVE every timer starts from stopped. -/
def modeTakesEffect (s : State) : State :=
  let bench := s.cfg.pack.protectionMode == codeBench
  if bench = s.protection.bench then s
  else
    let s1 : State :=
      { s with
        protection := { s.protection with
          bench := bench, conserveT := .stopped, limpT := .stopped, cutoffT := .stopped, rising := none } }
    if bench && (s.voltageLevel == .conserve || (s.voltageLevel == .limp && !s.limpHomeRuns)) then
      setVoltageLevel .normal s1
    else s1

/-- The energy level (R18). -/
def energyLevelOf (bench : Bool) (remaining : Option Nat) (reservePct : Nat) : Level :=
  if bench then .normal
  else
    match remaining with
    | none => .normal
    | some r => if r = 0 then .limp else if r ≤ reservePct then .conserve else .normal

def deriveEnergyLevel (s : State) : State :=
  { s with
    protection := { s.protection with
      energy := energyLevelOf s.protection.bench s.monitor.remainingPct s.cfg.pack.reservePct } }

/-- The Protection Controller judges a set completed in ACTIVE or PARK (R14 to R19). `before` holds the components as the
recomputation before this set left them. -/
def protectionSet (before : Components) (s : State) : State :=
  let s1 := modeTakesEffect s
  let s2 := if s1.protection.bench then s1 else risingTimer (fallingTimers s1)
  let floor := floorFires s2
  recomputeLevel before floor false (deriveEnergyLevel (floorTimer s2))

/-! ## Limp-home (R21, R22) -/

/-- The Protection Controller would grant (R21). -/
def mayGrant (s : State) : Bool :=
  s.running && s.voltageLevel == .cutoff &&
    (match s.retention.identity with
     | some i => !i.limpUsed
     | none => false)

/-- A limp-home grant (R21). -/
def grantLimpHome (origin : Origin) (s : State) : State :=
  let before := s.components
  let secs := s.cfg.pack.limpHomeS
  recomputeLevel before false true
    (enterLog .limpHomeGranted [origin.code, secs]
      (updateIdentity
        (fun i => { i with limpUsed := true, level := .limp, limpPeriod := some (timerAt s.now (secs * 1000)) }) s))

/-- The end of a limp-home period: the voltage level returns to CUTOFF (R22). -/
def endLimpHome (s : State) : State :=
  let before := s.components
  recomputeLevel before false true (updateIdentity (fun i => { i with level := .cutoff, limpPeriod := none }) s)

/-- The end of trip-LIMP (R13). -/
def endTripLimp (s : State) : State :=
  let before := s.components
  recomputeLevel before false false (updateIdentity (fun i => { i with tripLimp := none }) s)

end Sys2Proof.Machine
end

