-- ==== Sys2Proof/Machine/Monitor.lean ====
section
/-! DEFINITION. The Pack Monitor (sections 1.1 to 1.5): taking a sample set, the resistance estimator, the compensated voltage,
the energy accumulator and the trip detector. -/
namespace Sys2Proof.Machine

/-- The sampling period of a supply state, which is also the interval of a set (R1, R2). -/
def samplePeriod (st : SupplyState) : Nat :=
  match st with
  | .park => 100
  | .qualify | .active | .retain => 2

/-- The first set after a change of period completes one new period after the change (R1). -/
def restartSampling (s : State) : State :=
  { s with
    monitor := { s.monitor with clock := { last := s.now, period := samplePeriod s.supply.state }, prev := none } }

/-- The step of the estimator from a previous set (R5): `none` when the step is not used or is discarded. -/
def estimatorStep (prev : Nat × Nat) (vMeas iMeas : Nat) : Option Nat :=
  let dI : Int := (iMeas : Int) - prev.2
  let dV : Int := (vMeas : Int) - prev.1
  if 2000 ≤ dI.natAbs ∧ ((0 < dV ∧ dI < 0) ∨ (dV < 0 ∧ 0 < dI)) then
    let rNew := dV.natAbs * 1000 / dI.natAbs
    if 1 ≤ rNew ∧ rNew ≤ 250 then some rNew else none
  else none

/-- The estimate one eighth of the way on, divided toward zero (R5). -/
def estimateToward (r rNew : Nat) : Nat := ((r : Int) + divZ ((rNew : Int) - r) 8).toNat

/-- The estimator runs against the previous set, when one is held (R5, R6). -/
def runEstimator (vMeas iMeas : Nat) (s : State) : State :=
  match s.monitor.prev with
  | none => s
  | some p =>
    match estimatorStep p vMeas iMeas with
    | none => s
    | some rNew => updateIdentity (fun i => { i with r := estimateToward i.r rNew }) s

/-- V_comp of a set (R8). -/
def compensated (vMeas iMeas r : Nat) : Nat := vMeas + iMeas * r / 1000

/-- The I_servo list with a new value: at most the eight most recent, oldest first (R4). -/
def appendServo (l : List Nat) (v : Nat) : List Nat := if l.length < 8 then l ++ [v] else l.tail ++ [v]

/-- The set becomes the latest complete set, with V_comp and V_cell, and its I_servo joins the list (R3, R4, R8). -/
def recordSet (vMeas iMeas iServo iWinch : Nat) (s : State) : State :=
  let vComp := compensated vMeas iMeas s.estimate
  { s with
    monitor := { s.monitor with
      latest :=
        { time := s.now, vMeas := vMeas, iMeas := iMeas, iServo := iServo, iWinch := iWinch, vComp := vComp,
          vCell := vComp / identityCells s.retention.identity }
      servo := appendServo s.monitor.servo iServo } }

/-- The most the accumulator holds: 48 bits (R9). -/
def energyMax : Nat := 281474976710655

/-- The charge of a set added to the accumulator (R9). -/
def accumulate (iMeas : Nat) (s : State) : State :=
  updateIdentity
    (fun i => { i with energy := Nat.min energyMax (i.energy + iMeas * samplePeriod s.supply.state) }) s

/-- used_mAh and remaining_pct, derived anew on a set (R10). -/
def deriveEnergyFigures (s : State) : State :=
  let used := usedMahOf (match s.retention.identity with | some i => i.energy | none => 0)
  { s with
    monitor := { s.monitor with usedMah := used, remainingPct := remainingPctOf s.cfg.pack.capacityMah used } }

/-- The most recent three trip times, oldest first, with a new one (R13). -/
def appendTrip (l : List Time) (t : Time) : List Time := if l.length < 3 then l ++ [t] else l.tail ++ [t]

/-- Three trips within 30,000 ms (R13). -/
def tripsCrowded (l : List Time) : Bool :=
  match l with
  | [a, _, c] => elapsed c a ≤ 30000
  | _ => false

/-- A trip: the trip hold restarts, the time joins the history, trip-LIMP may begin or restart, TRIP is logged, and
TRIP_ACTIVE is handed on (R12, R13). -/
def findTrip (iMeas : Nat) (s : State) : State :=
  let s1 := updateIdentity
    (fun i =>
      let trips := appendTrip i.trips s.now
      { i with trips := trips, tripLimp := if tripsCrowded trips then some (timerAt s.now 30000) else i.tripLimp }) s
  let n := match s1.retention.identity with
    | some i => i.trips.length
    | none => 0
  notify [(.tripActive, true)]
    (enterLog .trip [iMeas, n]
      { s1 with monitor := { s1.monitor with tripHold := some (timerAt s.now 1000), tripRun := some s.now } })

/-- The trip detector (R11). -/
def tripDetector (iMeas : Nat) (s : State) : State :=
  if iMeas < s.cfg.pack.tripMa then { s with monitor := { s.monitor with tripRun := none } }
  else
    match s.monitor.tripRun with
    | none => { s with monitor := { s.monitor with tripRun := some s.now } }
    | some t => if s.cfg.pack.tripMs ≤ elapsed s.now t then findTrip iMeas s else s

/-- The set becomes the previous set of the next (R6). -/
def becomePrevious (s : State) : State :=
  { s with monitor := { s.monitor with prev := some (s.monitor.latest.vMeas, s.monitor.latest.iMeas) } }

/-- A set completed in ACTIVE or PARK, as the Pack Monitor brings its own state up to date: estimator, compensated voltage,
energy, trips (R3). -/
def monitorSet (vMeas iMeas iServo iWinch : Nat) (s : State) : State :=
  tripDetector iMeas
    (becomePrevious
      (deriveEnergyFigures (accumulate iMeas (recordSet vMeas iMeas iServo iWinch (runEstimator vMeas iMeas s)))))

end Sys2Proof.Machine
end

