-- ==== Sys2Proof/Machine/Supply.lean ====
section
/-! DEFINITION. The Supply Controller and the Retention Domain (chapter 3): the servo rail, qualification and the pass, the
three starts, removal, the backup cell, PARK entry and wake. -/
namespace Sys2Proof.Machine

/-! ## Outputs the supply state gates (R49, section 12.5) -/

/-- SRV_EN is asserted (section 3.6). -/
def State.srvEn (s : State) : Bool := s.supply.rail != .off

/-- The width of the pulse on ESC, while the part is powered (R49): the one that the latest frame began (R144). -/
def State.escPin (s : State) : Option Int := if s.powered then s.drive.pulse else none

/-- ALERT, asserted low, is driven while the part is powered (R201). -/
def State.alertPin (s : State) : Option Bool := if s.powered then some s.alert else none

/-! ## The servo rail (R63) -/

def setRail (r : Rail) (wait : Option Timer) (s : State) : State :=
  { s with supply := { s.supply with rail := r, railWait := wait } }

/-- SRV_EN is asserted on entering ACTIVE (R63). -/
def railOn (s : State) : State :=
  if s.pins.srvPg then setRail .good none s else setRail .wait (some (timerAt s.now 50)) s

/-- A change of SRV_PG (R63). RAIL_FAULT carries its reason, NO_POWER_GOOD (0) or LOST (1). -/
def srvPgChanged (good : Bool) (s : State) : State :=
  let s1 : State := { s with pins := { s.pins with srvPg := good } }
  match s.supply.rail with
  | .off => s1
  | .wait | .fault => if good then setRail .good none s1 else s1
  | .good => if good then s1 else enterLog .railFault [1] (setRail .fault none s1)

/-- The rail wait timer expires in WAIT (R63). -/
def railWaitExpired (s : State) : State := enterLog .railFault [0] (setRail .fault none s)

/-! ## The backup cell (R62) -/

/-- A measurement of the backup cell while a pack is present (R62). -/
def backupMeasured (mv : Nat) (s : State) : State :=
  let ready : Bool := 2600 ≤ mv
  let fell := s.supply.backupReady && !ready
  let s1 : State :=
    { s with
      supply := { s.supply with
        backupClock := s.supply.backupClock.fall 100
        backupMv := some mv
        backupReady := ready
        backupArmed := s.supply.backupArmed && !fell
        trickle := s.cfg.supply.trickle && decide (mv < 3000) } }
  if fell && s.supply.backupArmed then enterLog .backupLow [mv] s1 else s1

/-! ## Qualification (R57 to R60) -/

/-- The smallest count from 1 to 4 whose cells rest at or below 4,350 mV (R58). -/
def cellsAuto (vMeas : Nat) : Nat :=
  if vMeas ≤ 4350 then 1 else if vMeas ≤ 8700 then 2 else if vMeas ≤ 13050 then 3 else 4

/-- The cell count decided at a pass (R58), with the setting as it then stands: that a write of cell_count taken while the
qualification is open counts for that same qualification is DESIGN CHOICE (log entry 48). -/
def decidedCells (s : State) (vMeas : Nat) : Nat :=
  match s.cfg.supply.cellCount with
  | some n => n
  | none => cellsAuto vMeas

/-- After a restart that kept an identity, the count is not decided (R59). -/
def decidesCount (s : State) : Bool := !(s.supply.afterRestart && s.retention.identity.isSome)

/-- A passing set that a fixed cell count fails (R58). -/
def exceedsFixedCount (s : State) (vMeas : Nat) : Bool :=
  decidesCount s &&
    (match s.cfg.supply.cellCount with
     | some n => decide (n * 4350 < vMeas)
     | none => false)

/-- What a set does to the qualification (R57). -/
inductive Judged where
  | fails (reason : QualifyReason)
  | joins (window : QualWindow)
  | passes
  deriving DecidableEq, Repr

/-- A set within the band joins the open window (R57). -/
def judgeJoin (s : State) (w : QualWindow) (vMeas : Nat) : Judged :=
  let low := Nat.min w.low vMeas
  let high := Nat.max w.high vMeas
  if 100 < high - low then .fails .unstable
  else if 500 ≤ elapsed s.now w.first then (if exceedsFixedCount s vMeas then .fails .high else .passes)
  else .joins { w with low := low, high := high }

/-- The judgement of a set completed in QUALIFY (R57). -/
def judgeQualify (s : State) (vMeas : Nat) : Judged :=
  if vMeas < 2500 then .fails .low
  else if 17400 < vMeas then .fails .high
  else
    match s.supply.window with
    | none => .joins { first := s.now, low := vMeas, high := vMeas }
    | some w => judgeJoin s w vMeas

def QualMarks.get (m : QualMarks) : QualifyReason → Bool
  | .low => m.low
  | .high => m.high
  | .unstable => m.unstable

def QualMarks.mark (m : QualMarks) : QualifyReason → QualMarks
  | .low => { m with low := true }
  | .high => { m with high := true }
  | .unstable => { m with unstable := true }

/-- The window is emptied; the first failure of each reason is logged (R57). -/
def qualifyFails (reason : QualifyReason) (vMeas : Nat) (s : State) : State :=
  let s1 : State := { s with supply := { s.supply with window := none, marks := s.supply.marks.mark reason } }
  if s.supply.marks.get reason then s1 else enterLog .qualifyFail [reason.code, vMeas] s1

/-- The identity is SAME (R59). -/
def isSame (s : State) (vMeas : Nat) : Bool :=
  match s.retention.identity with
  | none => false
  | some i =>
    s.supply.afterRestart ||
      (decidedCells s vMeas == i.cells &&
        (match i.disconnect with
         | some d => decide (((s.monitor.latest.vComp : Int) - d).natAbs ≤ s.cfg.supply.samePackMv * i.cells)
         | none => false))

/-- A NEW identity (R59). -/
def newIdentity (cells rInit : Nat) : Identity :=
  { cells := cells, disconnect := none, energy := 0, r := rInit, level := .normal, limpUsed := false,
    limpPeriod := none, trips := [], tripLimp := none }

/-- A trip-LIMP or limp-home period whose end time has passed ends at the pass (R13, R22, R59). -/
def endOverdue (now : Time) (i : Identity) : Identity :=
  let i1 : Identity := if dueAt i.tripLimp now then { i with tripLimp := none } else i
  if dueAt i1.limpPeriod now then { i1 with limpPeriod := none, level := .cutoff } else i1

/-- The identity taken at the pass (R59). -/
def identityTaken (s : State) (vMeas : Nat) : Identity :=
  match s.retention.identity, isSame s vMeas with
  | some i, true => endOverdue s.now i
  | _, _ => newIdentity (decidedCells s vMeas) s.cfg.pack.rInit

/-- BACKUP_LOW at the pass, or its arming for the first fall after it (R62). -/
def backupAtPass (s : State) : State :=
  let s1 : State := { s with supply := { s.supply with backupArmed := s.supply.backupReady } }
  if s.supply.backupReady then s1 else enterLog .backupLow [s.supply.backupMv.getD 0] s1

/-- The level the identity gives is in force (R60). A change of it, which a limp-home period overdue at the pass can make from
LIMP to CUTOFF (R22), acts at this event: the two level conditions are evaluated, and a CUTOFF stops the winch and sets the drive
neutral (R20, R150, R162). -/
def levelAtPass (s : State) : State :=
  let l := s.components.effective
  if l = s.protection.effective then s
  else takeLevel { s with protection := { s.protection with effective := l } }

/-- The Steering Unit judges the standing STEER_MODE command on entry to ACTIVE (R135). -/
def steerEnterActive (s : State) : State := notifySteering (modeRequest s.authority.commands.mode s)

/-- A CUTOFF in force at the pass arms the locate latch (R194). -/
def armAtPass (s : State) : State := if s.protection.effective = .cutoff then armLocate .cutoff s else s

/-- The pass (R59, R60). R10 derives used_mAh and remaining_pct on sets, and no rule says whether a pass that is NEW, which sets the
accumulator to 0, derives them too: that they stand as the passing set left them until the next set is DESIGN CHOICE (log entry 54).
-/
def qualifyPasses (vMeas : Nat) (s : State) : State :=
  let same := isSame s vMeas
  let i := identityTaken s vMeas
  let s1 : State :=
    { s with
      retention := { s.retention with identity := some i }
      supply := { s.supply with state := .active, window := none } }
  let s2 := enterLog .packTaken [if same then 0 else 1, i.cells, s.monitor.latest.vComp] (restartIdle (railOn s1))
  armAtPass (lightsRefresh (steerEnterActive (levelAtPass (backupAtPass s2))))

/-- A set completed in QUALIFY reaches the qualification (R57). -/
def qualifySet (vMeas : Nat) (s : State) : State :=
  match judgeQualify s vMeas with
  | .fails reason => qualifyFails reason vMeas s
  | .joins w => { s with supply := { s.supply with window := some w } }
  | .passes => qualifyPasses vMeas s

/-! ## PARK entry and wake (R64 to R68) -/

/-- The Supply Controller's part of PARK entry: state, rail, idle timer, wake latches, positions, PARK_ENTER, and the
sampling period (R66, R67). -/
def supplyPark (src : ParkSource) (s : State) : State :=
  let s1 : State :=
    { s with
      supply := { s.supply with
        state := .park, rail := .off, railWait := none, idle := none, hookLatch := !s.winch.stowed,
        tiltLatch := !s.lights.tilted, parkModePos := s.radio.driver.modePos,
        parkLightsPos := s.radio.driver.lightsPos } }
  restartSampling (enterLog .parkEnter [src.code] s1)

/-- PARK entry (R66): the claims end in function order, the winch and the steering end their work, the ESC goes to neutral,
the commands are recomputed as driver values (R108), and the conditions that changed are handed on after the records,
THROTTLE_NEUTRAL before WINCH_MOVING and STEER_SETTLED: DESIGN CHOICE (log entry 39). -/
def enterPark (src : ParkSource) (s : State) : State :=
  let s1 := allFns.foldl (fun s f => endClaim .park f s) (supplyPark src s)
  let s2 := setCommands (driveNeutral (steerPark (winchPark s1)))
  let s3 := judgeTurns (judgeNeutralRun s2)
  lightsRefresh (notifySteering (notifyWinch (notify [(.throttleNeutral, s3.authority.neutral)] s3)))

/-- The Supply Controller's part of a wake (R68). -/
def supplyWake (src : WakeSource) (s : State) : State :=
  let s1 : State := { s with supply := { s.supply with state := .active } }
  restartSampling (restartIdle (railOn (enterLog .parkWake [src.code] s1)))

/-- A wake from PARK (R68), up to the waking event's own handling. -/
def wake (src : WakeSource) (s : State) : State := lightsRefresh (steerEnterActive (supplyWake src s))

/-- The winch or the steering is still at work, which restarts the idle timer at its expiry (R65). -/
def idleHeldOff (s : State) : Bool :=
  (s.winch.st != .idle && s.winch.st != .free) || s.steering.phase != .steady

/-- The park idle timer expires (R65). -/
def idleExpired (s : State) : State := if idleHeldOff s then restartIdle s else enterPark .idle s

/-- HOOK_STOWED changed: in PARK its latch arms, or the part wakes (R67). -/
def hookWakes (v : Bool) (s : State) : State :=
  if s.supply.state = .park then
    if v then (if s.supply.hookLatch then wake .hook s else s)
    else { s with supply := { s.supply with hookLatch := true } }
  else s

/-- TILTED changed: in PARK its latch arms, or the part wakes (R67). -/
def tiltWakes (v : Bool) (s : State) : State :=
  if s.supply.state = .park then
    if v then (if s.supply.tiltLatch then wake .tilt s else s)
    else { s with supply := { s.supply with tiltLatch := true } }
  else s

/-! ## The starts (R51 to R53) -/

/-- The Retention Domain clears itself and marks its contents valid (R51). -/
def clearRetention (s : State) : State :=
  { s with
    retention :=
      { valid := true, counter := 0, identity := none, flags := { cold := false, pack := false, restart := false }
        log := { ring := [], unread := 0, overwritten := false }, lineCount := 0 } }

/-- The start sets its own flag (R54). -/
def StartFlags.mark (f : StartFlags) : StartCause → StartFlags
  | .coldStart => { f with cold := true }
  | .packStart => { f with pack := true }
  | .restartReq => { f with restart := true }

/-- The flag of the start set, and START logged (R51 to R54). -/
def logStart (cause : StartCause) (s : State) : State :=
  enterLog .start [cause.code] { s with retention := { s.retention with flags := s.retention.flags.mark cause } }

/-- The two codes of protection_mode (R23). -/
def modeCode (c : Byte) : Bool := c == codeActive || c == codeBench

/-- A protection mode that is neither code becomes ACTIVE (R23). -/
def guardMode (w : Settings) : Settings :=
  { w with
    pack := { w.pack with
      protectionMode := if modeCode w.pack.protectionMode then w.pack.protectionMode else codeActive } }

/-- max_payout is not below a line count: a write clamps it so (R165, R180), and the count, which every start keeps (R179),
always lies within it (R164). DEDUCED (log entry 22) for a load and for RESTORE_DEFAULTS. -/
def coverCount (lineCount : Nat) (w : Settings) : Settings :=
  { w with winch := { w.winch with maxPayout := Nat.max w.winch.maxPayout lineCount } }

/-- A loaded image as it enters the working copy beside the line count kept. -/
def guarded (lineCount : Nat) (w : Settings) : Settings := coverCount lineCount (guardMode w)

def setWorking (w : Settings) (s : State) : State := { s with store := { s.store with working := w } }

/-- The working copy is loaded from the store, its check judged (R210), the protection mode guarded (R23). SETTING_GUARD
carries the identifier, the value offered and the origin, WRITE (0) or LOAD (1). -/
def loadSettings (s : State) : State :=
  if s.store.checkOk then
    let w := s.store.image
    let s1 := setWorking (guarded s.retention.lineCount w) s
    if modeCode w.pack.protectionMode then s1
    else enterLog .settingGuard [0x010B, w.pack.protectionMode.toNat, 1] s1
  else
    enterLog .settingGuard [0xFFFF, 0, 1] (setWorking (coverCount s.retention.lineCount factorySettings) s)

/-- Every volatile block takes its start values from the working copy and the identity kept (R24, R46, R69, R89, R108, R142,
R153, R179, R196, R204). -/
def beginBlocks (cause : StartCause) (s : State) : State :=
  let w := s.cfg
  let i := s.retention.identity
  { s with
    supply := startSupply (cause == .restartReq) s.now
    monitor := startMonitor w i s.now
    protection := startProtection i
    budget := startAllotment i s.now
    radio := startRadio w
    authority := startAuthority w
    interlock := startInterlock (startLevel i)
    steering := startSteering w s.now
    drive := startDrive w s.now
    winch := startWinch s.now
    lights := startLights s.now
    assist := startAssist cause
    store := { s.store with commit := .idle, writing := none } }

/-- A start: START, the settings, the volatile blocks, the sources, the interlock's start derivation (R125), ALERT (R201). -/
def start (cause : StartCause) (s : State) : State :=
  let s1 := lightsRefresh (beginBlocks cause (loadSettings (logStart cause s)))
  judgeAlert (reevaluate s1.interlock.conds s1)

/-- An attach is a pack start with the contents valid and a backup cell at or above the retention minimum, and a cold start
otherwise (R50). -/
def attach (backupMv : Nat) (s : State) : State :=
  if s.retention.valid ∧ 2000 ≤ backupMv then start .packStart s else start .coldStart (clearRetention s)

/-- The disconnect voltage is written from the last complete set (R53, R61). -/
def writeDisconnect (s : State) : State :=
  updateIdentity (fun i => { i with disconnect := some s.monitor.latest.vComp }) s

/-- A restart (R53): the disconnect voltage is written when it is taken in ACTIVE. -/
def restart (s : State) : State :=
  start .restartReq (if s.supply.state = .active then writeDisconnect s else s)

/-! ## Removal and the Retention Domain in RETAIN (R50, R56, R61, R210) -/

/-- The pack rail is below the greater of the backup cell and the switchover level (R50). -/
def railGone (railMv backupMv : Nat) : Bool := railMv < Nat.max backupMv 2200

/-- The volatile blocks lose their state and every output stops; a commit that is writing goes on (R61, R210). What the lost
state reads as is DESIGN CHOICE (log entry 6). -/
def loseVolatile (s : State) : State :=
  { s with
    supply := { startSupply false s.now with state := .retain }
    monitor := startMonitor factorySettings none s.now
    protection := startProtection none
    budget := { startAllotment none s.now with supply := .retain }
    radio := startRadio factorySettings
    authority := startAuthority factorySettings
    interlock := startInterlock .normal
    steering := startSteering factorySettings s.now
    drive := startDrive factorySettings s.now
    winch := { startWinch s.now with hookRun := none }
    lights := { startLights s.now with tiltRun := none }
    assist := { slot := [], shifted := [], inProgress := [], window := none }
    store := { s.store with
      working := factorySettings, commit := if s.store.writing.isSome then .writing else .idle }
    alert := false }

/-- The retention contents are lost in RETAIN (R56). A commit still writing is cut short, without a record, and the store's
check no longer holds (R61, R210); an attach that waited for its end is taken now, as a cold start. -/
def loseRetention (s : State) : State :=
  let cut := s.store.writing.isSome
  let s1 : State :=
    { s with
      retention := { s.retention with valid := false }
      store := { s.store with
        checkOk := s.store.checkOk && !cut, writing := none, commit := if cut then .idle else s.store.commit }
      supply := { s.supply with attachWaiting := none } }
  match s.supply.attachWaiting with
  | some (_, backup) => attach backup s1
  | none => s1

/-- A removal (R61): PACK_REMOVED carries the state left and the disconnect voltage written, or 0. With no cell, or one below the
retention minimum, nothing keeps the contents: they are lost in the same event (R50, R56), DEDUCED (log entry 38). -/
def removePack (backupMv : Nat) (s : State) : State :=
  let s1 := if s.running then writeDisconnect s else s
  let s2 := loseVolatile
    (enterLog .packRemoved [s.supply.state.code, if s.running then s.monitor.latest.vComp else 0] s1)
  if 2000 ≤ backupMv then s2 else loseRetention s2

/-- The end of a write (R209): the outcome, COMMIT_END with DONE (0) or FAILED (1), and the attach that waited for it
(R210). -/
def commitEnded (image : Settings) (ok : Bool) (s : State) : State :=
  let s1 : State :=
    { s with store := { s.store with image := image, checkOk := ok, commit := if ok then .done else .failed, writing := none } }
  let s2 := enterLog .commitEnd [if ok then 0 else 1] s1
  match s2.supply.attachWaiting with
  | some (_, backup) => attach backup s2
  | none => s2

end Sys2Proof.Machine
end

