-- ==== Sys2Proof/Machine/Radio.lean ====
section
/-! DEFINITION. The Radio Link Port (chapter 4): link states, driver values, gestures and telemetry. -/
namespace Sys2Proof.Machine

/-! ## Link states (R73 to R75) -/

/-- The link state after a valid frame (R73). `neutral` says that the THROTTLE value formed from the frame is within its
neutral band. -/
def nextLink (before : LinkState) (rxFailsafe neutral : Bool) : LinkState :=
  if rxFailsafe then .lost
  else
    match before with
    | .noLink | .lost => .rearm
    | .rearm => if neutral then .up else .rearm
    | .up | .holding => .up

/-- What entering HOLDING or LOST does to a gesture entry (R87). -/
def GestureState.dropout : GestureState → GestureState
  | .clear | .timing _ _ => .clear
  | .fired _ => .fired none

/-- The link quality of the last valid frame, 0 when there has been none (R75). -/
def State.quality (s : State) : Nat :=
  match s.radio.last with
  | some f => f.quality
  | none => 0

/-- The link arming timer follows LINK_LOST (R194). -/
def armLinkTimer (new : LinkState) (s : State) : State :=
  { s with
    lights := { s.lights with
      linkArm :=
        if new = .lost then (if s.radio.link = .lost then s.lights.linkArm else some (timerAt s.now 10000)) else none } }

/-- The link state becomes `new` (R75): gestures drop out on HOLDING and LOST, the silence timers do not run in LOST (R74),
LINK_STATE is logged, and both conditions go to the Interlock Unit together. -/
def changeLink (new : LinkState) (s : State) : State :=
  if new = s.radio.link then s
  else
    let s1 := armLinkTimer new s
    let s2 : State :=
      { s1 with
        radio := { s1.radio with
          link := new
          hold := if new = .lost then none else s1.radio.hold
          failsafe := if new = .lost then none else s1.radio.failsafe
          gestures :=
            if new = .holding ∨ new = .lost then s1.radio.gestures.map GestureState.dropout else s1.radio.gestures } }
    notify [(.linkUp, new == .up), (.linkLost, new == .lost)]
      (enterLog .linkState [s.radio.link.code, new.code, s.quality] s2)

/-- Both silence timers restart on a valid frame after which the link state is REARM or UP (R74). -/
def restartSilence (s : State) : State :=
  if s.radio.link = .rearm ∨ s.radio.link = .up then
    { s with
      radio := { s.radio with
        hold := some (timerAt s.now 60), failsafe := some (timerAt s.now s.cfg.radio.failsafeMs) } }
  else s

/-! ## Driver values (R76 to R80) -/

/-- The value of a frame for a function: its channel, negated when reversed, 0 when mapped to NONE (R76). -/
def functionValue (w : RadioSettings) (fr : Frame) (f : Fn) : Int :=
  match w.channels.get f with
  | none => 0
  | some n => if w.reversed.get f then -(fr.channels.getD (n - 1) 0) else fr.channels.getD (n - 1) 0

/-- The movement of a switch position (R77). -/
def nextPosition (before : Position) (v : Int) : Position :=
  match before with
  | .low => if 358 < v then .high else if -308 < v then .mid else .low
  | .mid => if v < -358 then .low else if 358 < v then .high else .mid
  | .high => if v < -358 then .low else if v < 308 then .mid else .high

/-- The position of a switch function on a frame; MID when it is mapped to NONE (R77). -/
def switchOnFrame (w : RadioSettings) (fr : Frame) (f : Fn) (before : Position) : Position :=
  match w.channels.get f with
  | none => .mid
  | some _ => nextPosition before (functionValue w fr f)

/-- The mode of a position (R78). -/
def modeOf (w : RadioSettings) : Position → Mode
  | .low => w.modeLow
  | .mid => w.modeMid
  | .high => w.modeHigh

/-- The scene of a position (R79). -/
def sceneOf : Position → Nat
  | .low => 0
  | .mid => 1
  | .high => 2

/-- The next mode of the cycle FRONT, COUNTER, CRAB, REAR, FRONT (R78). -/
def Mode.next : Mode → Mode
  | .front => .counter
  | .counter => .crab
  | .crab => .rear
  | .rear => .front

/-- The driver values from a frame taken in REARM or UP (R80); a change of the STEER_MODE position clears the override
(R78). -/
def valuesFromFrame (fr : Frame) (s : State) : State :=
  let w := s.cfg.radio
  let modePos := switchOnFrame w fr .steerMode s.radio.driver.modePos
  let lightsPos := switchOnFrame w fr .lights s.radio.driver.lightsPos
  let override := if modePos = s.radio.driver.modePos then s.radio.override else none
  { s with
    radio := { s.radio with
      override := override
      driver :=
        { throttle := if s.radio.link = .up then functionValue w fr .throttle else 0
          steer := functionValue w fr .steer
          winch := functionValue w fr .winch
          mode := override.getD (modeOf w modePos)
          modePos := modePos
          scene := sceneOf lightsPos
          lightsPos := lightsPos } } }

/-- The driver values on entry to LOST (R80). -/
def valuesLost (s : State) : State :=
  { s with
    radio := { s.radio with
      driver := { s.radio.driver with
        throttle := 0, winch := 0, steer := if s.cfg.radio.failsafeCentre then 0 else s.radio.driver.steer } } }

/-- The driver values after a frame (R80): in LOST they change at its entry alone. -/
def valuesAfterFrame (before : LinkState) (fr : Frame) (s : State) : State :=
  match s.radio.link with
  | .rearm | .up => valuesFromFrame fr s
  | .lost => if before = .lost then s else valuesLost s
  | .noLink | .holding => s

/-! ## Activity (R65, R67) -/

/-- The THROTTLE, STEER or WINCH driver value lies outside its neutral band. -/
def sticksMoved (s : State) : Bool :=
  let d := s.radio.driver
  let b := s.radio.bands
  !(within d.throttle b.throttle && within d.steer b.steer && within d.winch b.winch)

/-- The switch positions differ from two given ones. -/
def switchesDiffer (modePos lightsPos : Position) (s : State) : Bool :=
  s.radio.driver.modePos != modePos || s.radio.driver.lightsPos != lightsPos

/-- The Supply Controller takes a valid frame's driver values: the idle timer in ACTIVE (R65), a wake in PARK (R67). -/
def frameActivity (before : DriverValues) (s : State) : State :=
  match s.supply.state with
  | .active => if sticksMoved s || switchesDiffer before.modePos before.lightsPos s then restartIdle s else s
  | .park =>
    if (s.radio.link == .up || s.radio.link == .rearm)
        && (sticksMoved s || switchesDiffer s.supply.parkModePos s.supply.parkLightsPos s) then wake .frame s
    else s
  | .qualify | .retain => s

/-! ## Gestures (R84 to R88) -/

/-- A term holds on a frame (R84). -/
def GestureTerm.holds (t : GestureTerm) (fr : Frame) : Bool :=
  let v := fr.channels.getD (t.channel - 1) 0
  if t.above then decide (t.threshold < v) else decide (v < t.threshold)

/-- The judging state of an entry after a frame, and whether it fires on it (R85, R86). -/
def judgeEntry (now : Time) (e : GestureEntry) (fr : Frame) (st : GestureState) : GestureState × Bool :=
  let holds := e.terms.all (fun t => t.holds fr)
  let allFalse := e.terms.all (fun t => !t.holds fr)
  let run (start : Time) : GestureState × Bool :=
    if e.holdMs ≤ elapsed now start then (.fired none, true) else (.timing start none, false)
  match st with
  | .clear => if holds then (.timing now none, false) else (.clear, false)
  | .timing start none => if holds then run start else (.timing start (some now), false)
  | .timing start (some f) =>
    if elapsed now f < 40 then (if holds then run start else (.timing start (some f), false))
    else if holds then (.timing now none, false)
    else (.clear, false)
  | .fired none => if allFalse then (.fired (some now), false) else (.fired none, false)
  | .fired (some f) =>
    if allFalse then (if 40 ≤ elapsed now f then (.clear, false) else (.fired (some f), false))
    else (.fired none, false)

/-- The MODE_NEXT action (R78): the override, and the driver values handed over at once (R81). -/
def modeNext (s : State) : State :=
  let m := s.radio.driver.mode.next
  handOver s.radio.driver
    { s with radio := { s.radio with override := some m, driver := { s.radio.driver with mode := m } } }

/-- HAZARD_TOGGLE (R187). -/
def toggleHazard (s : State) : State :=
  lightsRefresh { s with lights := { s.lights with hazardGesture := !s.lights.hazardGesture } }

/-- The action delivered to its owner (R88). -/
def gestureAction (a : GestureAction) (s : State) : State :=
  match a with
  | .limpHome => if mayGrant s then grantLimpHome .gesture s else s
  | .ackLocate => if s.lights.locate then acknowledgeLocate .gesture s else s
  | .winchFree => toggleFree s
  | .winchClear => if s.winch.st = .stalled then clearStall s else s
  | .park => if s.supply.state = .active then enterPark .gesture s else s
  | .modeNext => modeNext s
  | .hazardToggle => toggleHazard s

/-- A gesture fires (R86, R88): in PARK, with an action other than PARK, it first wakes the part. -/
def fireGesture (i : Fin 4) (a : GestureAction) (s : State) : State :=
  let s1 := if s.supply.state = .park ∧ a ≠ .park then wake .gesture s else s
  gestureAction a (enterLog .gesture [i.val, a.code] s1)

/-- An entry is judged on a frame (R84): in ACTIVE or PARK, with the link UP or REARM, when it is enabled and has a term. -/
def judgeGesture (fr : Frame) (i : Fin 4) (s : State) : State :=
  let e := s.cfg.radio.gestures.get i
  if s.running && (s.radio.link == .up || s.radio.link == .rearm) && e.enabled && !e.terms.isEmpty then
    let j := judgeEntry s.now e fr (s.radio.gestures.get i)
    let s1 : State := { s with radio := { s.radio with gestures := s.radio.gestures.set i j.1 } }
    if j.2 then fireGesture i e.action s1 else s1
  else s

/-- The entries, in index order (R84). -/
def judgeGestures (fr : Frame) (s : State) : State :=
  judgeGesture fr 3 (judgeGesture fr 2 (judgeGesture fr 1 (judgeGesture fr 0 s)))

/-! ## Taking a frame (R72) -/

/-- The frame replaces the last valid frame, and the bands in force are those of the working copy (R72, R90). -/
def recordFrame (fr : Frame) (s : State) : State :=
  { s with radio := { s.radio with last := some fr, bands := s.cfg.radio.bands } }

/-- The link state a valid frame gives, once recorded (R73). -/
def linkAfter (fr : Frame) (s : State) : LinkState :=
  nextLink s.radio.link fr.rxFailsafe (within (functionValue s.cfg.radio fr .throttle) s.cfg.radio.bands.throttle)

/-- The link state and the driver values after a valid frame (R72 steps 1 and 2, up to the handing-over). -/
def frameValues (fr : Frame) (s : State) : State :=
  valuesAfterFrame s.radio.link fr (restartSilence (changeLink (linkAfter fr s) (recordFrame fr s)))

/-- A frame with TELEM_REQ opens a reply slot (R82). -/
def openSlot (fr : Frame) (s : State) : State :=
  if fr.telemReq then { s with radio := { s.radio with slot := some fr.count } } else s

/-- A valid frame is taken (R72). -/
def takeFrame (fr : Frame) (s : State) : State :=
  let before := s.radio.driver
  openSlot fr (judgeGestures fr (handOver before (frameActivity before (frameValues fr s))))

/-! ## Silence (R74, R80) -/

/-- The expiry of the hold timer (R74). -/
def holdExpired (s : State) : State :=
  let s1 : State := { s with radio := { s.radio with hold := none } }
  if s.radio.link = .up then handOver s.radio.driver (changeLink .holding s1) else s1

/-- The expiry of the failsafe timer, which runs in REARM, UP and HOLDING (R74). -/
def failsafeExpired (s : State) : State :=
  handOver s.radio.driver
    (valuesLost (changeLink .lost { s with radio := { s.radio with failsafe := none } }))

/-! ## Telemetry (R82, R83) -/

/-- The reply slot opens (R82): with the line idle a reply is transmitted and the rotation advances. -/
def replySlot (lineIdle : Bool) (count : Nat) (s : State) : State :=
  if lineIdle then
    { s with
      radio := { s.radio with
        slot := none, reply := replyBytes count s.radio.rotation s, rotation := s.radio.rotation.next } }
  else { s with radio := { s.radio with slot := none } }

end Sys2Proof.Machine
end

