-- ==== Sys2Proof/Machine/Settings.lean ====
section
/-! DEFINITION. Every setting of the part as the wire sees it: its identifier, its encoding, its range and the values that
are structurally impossible (section 12.3, R208, R212, and the settings rule that closes each chapter). -/
namespace Sys2Proof.Machine

/-- What a value offered to a setting comes to (R208): structurally impossible, or stored, as offered or clamped. -/
inductive Stored where
  | invalid
  | stored (w : Settings) (clamped : Bool)
  deriving DecidableEq, Repr

/-- A setting: its value as READ_SETTING gives it, and what a written value comes to. -/
structure Setting where
  read  : Settings → List Byte
  write : List Byte → Settings → Stored

/-! ## Numbers -/

/-- The width a range is sent in (R212). -/
inductive Width where
  | one | oneSigned | two | twoSigned
  deriving DecidableEq, Repr

/-- The bytes of a number of this range (R212). That a duration in a setting value is such a number, and none of R212's times of 32
bits, is DESIGN CHOICE (log entry 53). -/
def widthOf (lo hi : Int) : Width :=
  if 0 ≤ lo then (if hi ≤ 255 then .one else .two)
  else if -128 ≤ lo ∧ hi ≤ 127 then .oneSigned
  else .twoSigned

def encodeNum (w : Width) (v : Int) : List Byte :=
  match w with
  | .one => [byteOf v.toNat]
  | .oneSigned => [BitVec.ofInt 8 v]
  | .two => le16 v.toNat
  | .twoSigned => leSigned16 v

/-- A number of the width; none when the length is another. -/
def decodeNum (w : Width) (b : List Byte) : Option Int :=
  match w, b with
  | .one, [x] => some x.toNat
  | .oneSigned, [x] => some x.toInt
  | .two, [lo, hi] => some (num16 lo hi)
  | .twoSigned, [lo, hi] => some (int16 lo hi)
  | _, _ => none

/-- A number outside its range is clamped (R208). -/
def number (lo hi : Int) (get : Settings → Int) (put : Int → Settings → Settings) : Setting :=
  { read := fun w => encodeNum (widthOf lo hi) (get w)
    write := fun b w =>
      match decodeNum (widthOf lo hi) b with
      | none => .invalid
      | some v => .stored (put (clampI lo hi v) w) (clampI lo hi v != v) }

/-- A number whose clamped value must also meet a relation (R26, R143, R154). -/
def related (lo hi : Int) (get : Settings → Int) (put : Int → Settings → Settings) (ok : Settings → Bool) : Setting :=
  { read := fun w => encodeNum (widthOf lo hi) (get w)
    write := fun b w =>
      match decodeNum (widthOf lo hi) b with
      | none => .invalid
      | some v =>
        if ok (put (clampI lo hi v) w) then .stored (put (clampI lo hi v) w) (clampI lo hi v != v) else .invalid }

/-- A number that must be one of a list (R143, R154). -/
def oneOf (allowed : List Nat) (get : Settings → Nat) (put : Nat → Settings → Settings) : Setting :=
  { read := fun w => [byteOf (get w)]
    write := fun b w =>
      match b with
      | [x] => if x.toNat ∈ allowed then .stored (put x.toNat w) false else .invalid
      | _ => .invalid }

/-- A flag: one byte, 0 or 1 (R212); anything else is neither off nor on. -/
def flagOf (b : Byte) : Option Bool := if b = 0 then some false else if b = 1 then some true else none

def flag (get : Settings → Bool) (put : Bool → Settings → Settings) : Setting :=
  { read := fun w => [flagByte (get w)]
    write := fun b w =>
      match b with
      | [x] =>
        match flagOf x with
        | some v => .stored (put v w) false
        | none => .invalid
      | _ => .invalid }

/-- An enumerated value by its position (R212). -/
def enumerated (get : Settings → Nat) (put : Nat → Settings → Option Settings) : Setting :=
  { read := fun w => [byteOf (get w)]
    write := fun b w =>
      match b with
      | [x] =>
        match put x.toNat w with
        | some w' => .stored w' false
        | none => .invalid
      | _ => .invalid }

/-- A number of a short list or a named alternative, sent as 0xFF (R212). -/
def alternative (lo hi : Nat) (get : Settings → Option Nat) (put : Option Nat → Settings → Settings) : Setting :=
  { read := fun w => [optByte (get w)]
    write := fun b w =>
      match b with
      | [x] =>
        if x = noByte then .stored (put none w) false
        else if lo ≤ x.toNat ∧ x.toNat ≤ hi then .stored (put (some x.toNat) w) false
        else .invalid
      | _ => .invalid }

/-! ## Chapter 1 (R26) -/

/-- The thresholds stand in order (R26). -/
def thresholdsOrdered (w : Settings) : Bool := w.pack.cutoffMv < w.pack.limpMv && w.pack.limpMv < w.pack.conserveMv

/-- capacity_mah: 0, or 100 to 20,000; a write from 1 to 99 is clamped to 100 (R26). -/
def capacitySetting : Setting :=
  { read := fun w => le16 w.pack.capacityMah
    write := fun b w =>
      match b with
      | [lo, hi] =>
        let n := num16 lo hi
        let m := if n = 0 then 0 else clampN 100 20000 n
        .stored { w with pack := { w.pack with capacityMah := m } } (m != n)
      | _ => .invalid }

/-- protection_mode: a value that is neither code stores ACTIVE and is answered OK_CLAMPED (R23). -/
def modeSetting : Setting :=
  { read := fun w => [w.pack.protectionMode]
    write := fun b w =>
      match b with
      | [x] =>
        let ok := x == codeActive || x == codeBench
        .stored { w with pack := { w.pack with protectionMode := if ok then x else codeActive } } (!ok)
      | _ => .invalid }

def packNumber (lo hi : Int) (get : PackSettings → Nat) (put : Nat → PackSettings → PackSettings) : Setting :=
  number lo hi (fun w => get w.pack) (fun v w => { w with pack := put v.toNat w.pack })

def threshold (lo hi : Int) (get : PackSettings → Nat) (put : Nat → PackSettings → PackSettings) : Setting :=
  related lo hi (fun w => get w.pack) (fun v w => { w with pack := put v.toNat w.pack }) thresholdsOrdered

/-- The settings of section 1.11, by position. -/
def packSetting : Nat → Option Setting
  | 0 => some (packNumber 1 250 (·.rInit) (fun v p => { p with rInit := v }))
  | 1 => some capacitySetting
  | 2 => some (packNumber 0 50 (·.reservePct) (fun v p => { p with reservePct := v }))
  | 3 => some (packNumber 5000 65000 (·.tripMa) (fun v p => { p with tripMa := v }))
  | 4 => some (packNumber 50 1000 (·.tripMs) (fun v p => { p with tripMs := v }))
  | 5 => some (threshold 3000 4000 (·.conserveMv) (fun v p => { p with conserveMv := v }))
  | 6 => some (threshold 2900 3900 (·.limpMv) (fun v p => { p with limpMv := v }))
  | 7 => some (threshold 2800 3800 (·.cutoffMv) (fun v p => { p with cutoffMv := v }))
  | 8 => some (packNumber 20 300 (·.hystMv) (fun v p => { p with hystMv := v }))
  | 9 => some (packNumber 2600 3200 (·.absFloorMv) (fun v p => { p with absFloorMv := v }))
  | 10 => some (packNumber 10 300 (·.limpHomeS) (fun v p => { p with limpHomeS := v }))
  | 11 => some modeSetting
  | _ => none

/-! ## Chapter 2 (R48) -/

def budgetNumber (lo hi : Int) (get : BudgetSettings → Nat) (put : Nat → BudgetSettings → BudgetSettings) : Setting :=
  number lo hi (fun w => get w.budget) (fun v w => { w with budget := put v.toNat w.budget })

def reserveSetting (get : PerClass Nat → Nat) (put : Nat → PerClass Nat → PerClass Nat) : Setting :=
  budgetNumber 0 10000 (fun b => get b.reserve) (fun v b => { b with reserve := put v b.reserve })

/-- The settings of section 2.10, by position. -/
def budgetSetting : Nat → Option Setting
  | 0 => some (budgetNumber 3000 3700 (·.floorMv) (fun v b => { b with floorMv := v }))
  | 1 => some (budgetNumber 0 300 (·.conserveRaise) (fun v b => { b with conserveRaise := v }))
  | 2 => some (budgetNumber 0 500 (·.limpRaise) (fun v b => { b with limpRaise := v }))
  | 3 => some (budgetNumber 5000 65535 (·.ceilingMa) (fun v b => { b with ceilingMa := v }))
  | 4 => some (reserveSetting (·.steer) (fun v r => { r with steer := v }))
  | 5 => some (reserveSetting (·.signal) (fun v r => { r with signal := v }))
  | 6 => some (reserveSetting (·.drive) (fun v r => { r with drive := v }))
  | 7 => some (reserveSetting (·.winch) (fun v r => { r with winch := v }))
  | 8 => some (reserveSetting (·.scene) (fun v r => { r with scene := v }))
  | 9 => some (budgetNumber 1000 65535 (·.driveFullMa) (fun v b => { b with driveFullMa := v }))
  | _ => none

/-! ## Chapter 3 (R70) -/

/-- The settings of section 3.10, by position. -/
def supplySetting : Nat → Option Setting
  | 0 => some (alternative 1 4 (·.supply.cellCount) (fun v w => { w with supply := { w.supply with cellCount := v } }))
  | 1 =>
    some (number 5 100 (fun w => w.supply.samePackMv)
      (fun v w => { w with supply := { w.supply with samePackMv := v.toNat } }))
  | 2 => some (flag (·.supply.trickle) (fun v w => { w with supply := { w.supply with trickle := v } }))
  | 3 =>
    some (number 0 60 (fun w => w.supply.parkIdleMin)
      (fun v w => { w with supply := { w.supply with parkIdleMin := v.toNat } }))
  | _ => none

/-! ## Chapter 4 (R90) -/

def radioUpdate (f : RadioSettings → RadioSettings) (w : Settings) : Settings := { w with radio := f w.radio }

/-- A channel of the map: 1 to 10, or NONE. -/
def channelSetting (f : Fn) : Setting :=
  alternative 1 10 (fun w => w.radio.channels.get f)
    (fun v => radioUpdate (fun r => { r with channels := r.channels.set f v }))

def reverseSetting (f : Fn) : Setting :=
  flag (fun w => w.radio.reversed.get f) (fun v => radioUpdate (fun r => { r with reversed := r.reversed.set f v }))

def bandSetting (get : Bands → Nat) (put : Nat → Bands → Bands) : Setting :=
  number 0 200 (fun w => get w.radio.bands) (fun v => radioUpdate (fun r => { r with bands := put v.toNat r.bands }))

def positionModeSetting (get : RadioSettings → Mode) (put : Mode → RadioSettings → RadioSettings) : Setting :=
  enumerated (fun w => (get w.radio).code) (fun n w => (modeOfCode n).map (fun m => radioUpdate (put m) w))

/-- failsafe_steer: HOLD (0) or CENTRE (1). -/
def failsafeSteerSetting : Setting :=
  enumerated (fun w => if w.radio.failsafeCentre then 1 else 0)
    (fun n w =>
      if n = 0 then some (radioUpdate (fun r => { r with failsafeCentre := false }) w)
      else if n = 1 then some (radioUpdate (fun r => { r with failsafeCentre := true }) w)
      else none)

/-- A gesture term: channel, ABOVE (0) or BELOW (1), threshold. -/
def encodeGestureTerm (t : GestureTerm) : List Byte :=
  [byteOf t.channel, if t.above then 0 else 1] ++ leSigned16 t.threshold

/-- A term read back, its threshold clamped, and whether it was. -/
def decodeGestureTerm (c rel lo hi : Byte) : Option (GestureTerm × Bool) :=
  let v := int16 lo hi
  if 1 ≤ c.toNat ∧ c.toNat ≤ 10 ∧ rel.toNat ≤ 1 then
    some (⟨c.toNat, rel == 0, clampI (-1000) 1000 v⟩, clampI (-1000) 1000 v != v)
  else none

/-- The first `n` terms of a padded list. -/
def decodeGestureTerms : Nat → List Byte → Option (List GestureTerm × Bool)
  | 0, _ => some ([], false)
  | n + 1, c :: rel :: lo :: hi :: rest =>
    match decodeGestureTerm c rel lo hi, decodeGestureTerms n rest with
    | some (t, k), some (ts, ks) => some (t :: ts, k || ks)
    | _, _ => none
  | _ + 1, _ => none

/-- A gesture entry: enable flag, terms, hold_ms, action: 17 bytes. That hold_ms is 16 bits, by its range, is DESIGN CHOICE (log
entry 53). -/
def encodeGesture (e : GestureEntry) : List Byte :=
  [flagByte e.enabled] ++ listField 3 4 (e.terms.map encodeGestureTerm) ++ le16 e.holdMs ++ [byteOf e.action.code]

def decodeGesture (b : List Byte) : Option (GestureEntry × Bool) :=
  let n := (byteAt b 1).toNat
  let hold := num16 (byteAt b 14) (byteAt b 15)
  if b.length = 17 ∧ n ≤ 3 then
    match flagOf (byteAt b 0), decodeGestureTerms n (b.drop 2), gestureActionOfCode (byteAt b 16).toNat with
    | some en, some (ts, k), some a =>
      some ({ enabled := en, terms := ts, holdMs := clampN 500 5000 hold, action := a },
        k || clampN 500 5000 hold != hold)
    | _, _, _ => none
  else none

def gestureSetting (i : Fin 4) : Setting :=
  { read := fun w => encodeGesture (w.radio.gestures.get i)
    write := fun b w =>
      match decodeGesture b with
      | some (e, k) => .stored (radioUpdate (fun r => { r with gestures := r.gestures.set i e }) w) k
      | none => .invalid }

/-- The settings of section 4.7, by position. -/
def radioSetting : Nat → Option Setting
  | 0 => some (channelSetting .throttle)
  | 1 => some (channelSetting .steer)
  | 2 => some (channelSetting .steerMode)
  | 3 => some (channelSetting .winch)
  | 4 => some (channelSetting .lights)
  | 5 => some (reverseSetting .throttle)
  | 6 => some (reverseSetting .steer)
  | 7 => some (reverseSetting .steerMode)
  | 8 => some (reverseSetting .winch)
  | 9 => some (reverseSetting .lights)
  | 10 => some (bandSetting (·.throttle) (fun v b => { b with throttle := v }))
  | 11 => some (bandSetting (·.steer) (fun v b => { b with steer := v }))
  | 12 => some (bandSetting (·.winch) (fun v b => { b with winch := v }))
  | 13 => some (positionModeSetting (·.modeLow) (fun m r => { r with modeLow := m }))
  | 14 => some (positionModeSetting (·.modeMid) (fun m r => { r with modeMid := m }))
  | 15 => some (positionModeSetting (·.modeHigh) (fun m r => { r with modeHigh := m }))
  | 16 =>
    some (number 100 1000 (fun w => w.radio.failsafeMs)
      (fun v => radioUpdate (fun r => { r with failsafeMs := v.toNat })))
  | 17 => some failsafeSteerSetting
  | 18 => some (gestureSetting 0)
  | 19 => some (gestureSetting 1)
  | 20 => some (gestureSetting 2)
  | 21 => some (gestureSetting 3)
  | _ => none

/-! ## Chapter 5 (R109) -/

def authorityNumber (lo hi : Int) (get : AuthoritySettings → Nat)
    (put : Nat → AuthoritySettings → AuthoritySettings) : Setting :=
  number lo hi (fun w => get w.authority) (fun v w => { w with authority := put v.toNat w.authority })

/-- The settings of section 5.10, by position. -/
def authoritySetting : Nat → Option Setting
  | 0 => some (authorityNumber 0 500 (·.blendLimit) (fun v a => { a with blendLimit := v }))
  | 1 => some (authorityNumber 100 2000 (·.claimHoldMs) (fun v a => { a with claimHoldMs := v }))
  | 2 => some (authorityNumber 100 600 (·.takeoverDelta) (fun v a => { a with takeoverDelta := v }))
  | 3 => some (authorityNumber 500 5000 (·.lockoutMs) (fun v a => { a with lockoutMs := v }))
  | _ => none

/-! ## Chapter 6 (R126) -/

/-- A polarity: TRUE (0) or FALSE (1), in the order the manual lists them (DEDUCED, log entry 23). -/
def polarityByte (p : Bool) : Byte := if p then 0 else 1

def polarityOf (b : Byte) : Option Bool := if b = 0 then some true else if b = 1 then some false else none

def encodeGateTerm (t : GateTerm) : List Byte := [byteOf t.cond.code, polarityByte t.pol]

def decodeGateTerm (c p : Byte) : Option GateTerm :=
  match condOfCode c.toNat, polarityOf p with
  | some k, some v => some ⟨k, v⟩
  | _, _ => none

/-- The first `n` terms of a padded list. -/
def decodeGateTerms : Nat → List Byte → Option (List GateTerm)
  | 0, _ => some []
  | n + 1, c :: p :: rest =>
    match decodeGateTerm c p, decodeGateTerms n rest with
    | some t, some ts => some (t :: ts)
    | _, _ => none
  | _ + 1, _ => none

/-- The target byte of a gate entry: a target's position, or NONE as 0xFF, which R212 does not say of NONE: DESIGN CHOICE (log
entry 49). -/
def targetChoice (b : Byte) : Option (Option Target) :=
  if b = noByte then some none else (targetOfCode b.toNat).map some

/-- A gate entry: enable flag, target, terms, action: 12 bytes (section 6.2). -/
def encodeGate (g : Gate) : List Byte :=
  [flagByte g.enabled, optByte (g.target.map Target.code)] ++ listField 4 2 (g.terms.map encodeGateTerm)
    ++ [byteOf g.action.code]

def decodeGate (b : List Byte) : Option Gate :=
  let n := (byteAt b 2).toNat
  if b.length = 12 ∧ n ≤ 4 then
    match flagOf (byteAt b 0), targetChoice (byteAt b 1), decodeGateTerms n (b.drop 3),
      gateActionOfCode (byteAt b 11).toNat with
    | some en, some t, some ts, some a =>
      if en && t.isNone then none else some { enabled := en, target := t, terms := ts, action := a }
    | _, _, _, _ => none
  else none

def interlockUpdate (f : InterlockSettings → InterlockSettings) (w : Settings) : Settings :=
  { w with interlock := f w.interlock }

def gateSetting (i : Fin 8) : Setting :=
  { read := fun w => encodeGate (w.interlock.gates.get i)
    write := fun b w =>
      match decodeGate b with
      | some g => .stored (interlockUpdate (fun k => { k with gates := k.gates.set i g }) w) false
      | none => .invalid }

/-- A latch term: two bytes, 0xFF for one that is absent (R212). -/
def encodeLatchTerm (t : Option GateTerm) : List Byte :=
  match t with
  | some t => encodeGateTerm t
  | none => [noByte, noByte]

/-- A latch term may be absent and may not name a latch (R126). An absent one is 0xFF in both of its bytes, and 0xFF with another
polarity byte is no term: DESIGN CHOICE (log entry 42). -/
def decodeLatchTerm (c p : Byte) : Option (Option GateTerm) :=
  if c = noByte ∧ p = noByte then some none
  else
    match decodeGateTerm c p with
    | some t => if t.cond = .latchA ∨ t.cond = .latchB then none else some (some t)
    | none => none

def encodeLatch (l : Latch) : List Byte := encodeLatchTerm l.set ++ encodeLatchTerm l.reset

def decodeLatch (b : List Byte) : Option Latch :=
  match b with
  | [a, p, c, q] =>
    match decodeLatchTerm a p, decodeLatchTerm c q with
    | some s, some r => some { set := s, reset := r }
    | _, _ => none
  | _ => none

def latchSetting (get : InterlockSettings → Latch) (put : Latch → InterlockSettings → InterlockSettings) : Setting :=
  { read := fun w => encodeLatch (get w.interlock)
    write := fun b w =>
      match decodeLatch b with
      | some l => .stored (interlockUpdate (put l) w) false
      | none => .invalid }

/-- The settings of section 6.8, by position. -/
def interlockSetting : Nat → Option Setting
  | 0 => some (gateSetting 0)
  | 1 => some (gateSetting 1)
  | 2 => some (gateSetting 2)
  | 3 => some (gateSetting 3)
  | 4 => some (gateSetting 4)
  | 5 => some (gateSetting 5)
  | 6 => some (gateSetting 6)
  | 7 => some (gateSetting 7)
  | 8 => some (latchSetting (·.latchA) (fun l k => { k with latchA := l }))
  | 9 => some (latchSetting (·.latchB) (fun l k => { k with latchB := l }))
  | _ => none

/-! ## Chapter 7 (R143) -/

def steeringUpdate (f : SteeringSettings → SteeringSettings) (w : Settings) : Settings :=
  { w with steering := f w.steering }

/-- The endpoints of an output stand in order (R143). -/
def endsOrdered (v : ServoSettings) : Bool := v.endLow < v.endHigh

/-- One of the two servo outputs. -/
structure Output where
  get : SteeringSettings → ServoSettings
  put : ServoSettings → SteeringSettings → SteeringSettings

def frontOutput : Output := { get := fun v => v.front, put := fun o v => { v with front := o } }
def rearOutput : Output := { get := fun v => v.rear, put := fun o v => { v with rear := o } }

def outputNumber (lo hi : Int) (o : Output) (get : ServoSettings → Int) (put : Int → ServoSettings → ServoSettings) :
    Setting :=
  number lo hi (fun w => get (o.get w.steering)) (fun v => steeringUpdate (fun k => o.put (put v (o.get k)) k))

def outputEnd (o : Output) (get : ServoSettings → Int) (put : Int → ServoSettings → ServoSettings) : Setting :=
  related 800 2200 (fun w => get (o.get w.steering)) (fun v => steeringUpdate (fun k => o.put (put v (o.get k)) k))
    (fun w => endsOrdered (o.get w.steering))

def throwSetting (o : Output) : Setting := outputNumber 0 700 o (·.throw) (fun v k => { k with throw := v.toNat })
def trimSetting (o : Output) : Setting := outputNumber (-200) 200 o (·.trim) (fun v k => { k with trim := v })
def endLowSetting (o : Output) : Setting := outputEnd o (·.endLow) (fun v k => { k with endLow := v })
def endHighSetting (o : Output) : Setting := outputEnd o (·.endHigh) (fun v k => { k with endHigh := v })
def slewSetting (o : Output) : Setting := outputNumber 1 400 o (·.slew) (fun v k => { k with slew := v.toNat })

def revSetting (o : Output) : Setting :=
  flag (fun w => (o.get w.steering).rev) (fun v => steeringUpdate (fun k => o.put { o.get k with rev := v } k))

def steeringNumber (lo hi : Int) (get : SteeringSettings → Nat) (put : Nat → SteeringSettings → SteeringSettings) :
    Setting :=
  number lo hi (fun w => get w.steering) (fun v => steeringUpdate (put v.toNat))

/-- The settings of section 7.7, by position. -/
def steeringSetting : Nat → Option Setting
  | 0 => some (throwSetting frontOutput)
  | 1 => some (throwSetting rearOutput)
  | 2 => some (trimSetting frontOutput)
  | 3 => some (trimSetting rearOutput)
  | 4 => some (endLowSetting frontOutput)
  | 5 => some (endLowSetting rearOutput)
  | 6 => some (endHighSetting frontOutput)
  | 7 => some (endHighSetting rearOutput)
  | 8 => some (revSetting frontOutput)
  | 9 => some (revSetting rearOutput)
  | 10 => some (slewSetting frontOutput)
  | 11 => some (slewSetting rearOutput)
  | 12 => some (steeringNumber 0 100 (·.rearRatio) (fun v k => { k with rearRatio := v }))
  | 13 =>
    some (oneOf [5, 10, 20] (·.steering.framePeriodMs) (fun v => steeringUpdate (fun k => { k with framePeriodMs := v })))
  | 14 => some (steeringNumber 2 50 (·.settleUs) (fun v k => { k with settleUs := v }))
  | 15 => some (steeringNumber 500 5000 (·.transitionTimeoutMs) (fun v k => { k with transitionTimeoutMs := v }))
  | _ => none

/-! ## Chapter 8 (R154) -/

def driveUpdate (f : DriveSettings → DriveSettings) (w : Settings) : Settings := { w with drive := f w.drive }

def driveEnd (get : DriveSettings → Int) (put : Int → DriveSettings → DriveSettings) : Setting :=
  related 800 2200 (fun w => get w.drive) (fun v => driveUpdate (put v)) (fun w => w.drive.endLow < w.drive.endHigh)

def driveNumber (lo hi : Int) (get : DriveSettings → Int) (put : Int → DriveSettings → DriveSettings) : Setting :=
  number lo hi (fun w => get w.drive) (fun v => driveUpdate (put v))

/-- The settings of section 8.7, by position. -/
def driveSetting : Nat → Option Setting
  | 0 => some (driveNumber 0 600 (·.throw) (fun v k => { k with throw := v.toNat }))
  | 1 => some (driveNumber (-100) 100 (·.trim) (fun v k => { k with trim := v }))
  | 2 => some (driveEnd (·.endLow) (fun v k => { k with endLow := v }))
  | 3 => some (driveEnd (·.endHigh) (fun v k => { k with endHigh := v }))
  | 4 => some (flag (·.drive.rev) (fun v => driveUpdate (fun k => { k with rev := v })))
  | 5 => some (oneOf [10, 20] (·.drive.escFrameMs) (fun v => driveUpdate (fun k => { k with escFrameMs := v })))
  | 6 => some (driveNumber 0 1000 (·.ramp) (fun v k => { k with ramp := v.toNat }))
  | 7 => some (driveNumber 10 100 (·.limpDrivePct) (fun v k => { k with limpDrivePct := v.toNat }))
  | _ => none

/-! ## Chapter 9 (R165, R180) -/

def winchNumber (lo hi : Int) (get : WinchSettings → Nat) (put : Nat → WinchSettings → WinchSettings) : Setting :=
  number lo hi (fun w => get w.winch) (fun v w => { w with winch := put v.toNat w.winch })

/-- max_payout: 100 to 60,000, and at least the present count (R165). -/
def maxPayoutSetting (lineCount : Nat) : Setting :=
  { read := fun w => le16 w.winch.maxPayout
    write := fun b w =>
      match b with
      | [lo, hi] =>
        let n := num16 lo hi
        let m := Nat.max (clampN 100 60000 n) lineCount
        .stored { w with winch := { w.winch with maxPayout := m } } (m != n)
      | _ => .invalid }

/-- The settings of section 9.12, by position. -/
def winchSetting (lineCount : Nat) : Nat → Option Setting
  | 0 => some (maxPayoutSetting lineCount)
  | 1 => some (winchNumber 1000 20000 (·.stallMa) (fun v k => { k with stallMa := v }))
  | 2 => some (winchNumber 100 2000 (·.stallMs) (fun v k => { k with stallMs := v }))
  | 3 => some (winchNumber 10 100 (·.limpWinchPct) (fun v k => { k with limpWinchPct := v }))
  | 4 => some (winchNumber 1000 20000 (·.winchLimitMa) (fun v k => { k with winchLimitMa := v }))
  | _ => none

/-! ## Chapter 10 (R197) -/

def lightsUpdate (f : LightSettings → LightSettings) (w : Settings) : Settings := { w with lights := f w.lights }

/-- The class stored when the class is left absent (R197). -/
def defaultClass : Role → LightClass
  | .rock | .bar => .scene
  | .head | .tail | .brake | .reverse | .turnL | .turnR | .beacon => .signal

/-- A channel entry: role, class, nominal_ma, brightness, locate flag: 6 bytes. -/
def encodeChannel (e : ChannelEntry) : List Byte :=
  [byteOf e.role.code, byteOf e.cls.code] ++ le16 e.nominalMa ++ [byteOf e.brightness, flagByte e.locate]

def decodeChannel (b : List Byte) : Option (ChannelEntry × Bool) :=
  match b with
  | [r, c, lo, hi, br, l] =>
    match roleOfCode r.toNat, flagOf l with
    | some role, some loc =>
      let cls := if c = noByte then some (defaultClass role) else lightClassOfCode c.toNat
      let n := num16 lo hi
      cls.map (fun k => (⟨role, k, clampN 0 2000 n, br.toNat, loc⟩, clampN 0 2000 n != n))
    | _, _ => none
  | _ => none

def lightChannelSetting (i : Fin 8) : Setting :=
  { read := fun w => encodeChannel (w.lights.channels.get i)
    write := fun b w =>
      match decodeChannel b with
      | some (e, k) => .stored (lightsUpdate (fun l => { l with channels := l.channels.set i e }) w) k
      | none => .invalid }

/-- The first `n` steps of a padded list; a duration of 0 units is clamped to 1 (R197). -/
def decodeSteps : Nat → List Byte → Option (List PatternStep × Bool)
  | 0, _ => some ([], false)
  | n + 1, l :: u :: rest =>
    match decodeSteps n rest with
    | some (ss, k) => some (⟨l.toNat, clampN 1 255 u.toNat⟩ :: ss, k || u == 0)
    | none => none
  | _ + 1, _ => none

/-- A pattern entry: steps, then LOOP (0) or ONE_SHOT (1): 18 bytes. -/
def encodePattern (p : Pattern) : List Byte :=
  listField 8 2 (p.steps.map (fun s => [byteOf s.level, byteOf s.units])) ++ [if p.loop then 0 else 1]

def decodePattern (b : List Byte) : Option (Pattern × Bool) :=
  let n := (byteAt b 0).toNat
  let rep := (byteAt b 17).toNat
  if b.length = 18 ∧ 1 ≤ n ∧ n ≤ 8 ∧ rep ≤ 1 then
    (decodeSteps n (b.drop 1)).map (fun r => (⟨r.1, rep == 0⟩, r.2))
  else none

def patternSetting (get : LightSettings → Pattern) (put : Pattern → LightSettings → LightSettings) : Setting :=
  { read := fun w => encodePattern (get w.lights)
    write := fun b w =>
      match decodePattern b with
      | some (p, k) => .stored (lightsUpdate (put p) w) k
      | none => .invalid }

/-- A pattern index from 0 to 7. -/
def patternIndex (n : Nat) : Option (Fin 8) := if h : n < 8 then some ⟨n, h⟩ else none

/-- A scene assignment: a pattern index or AUTO (0xFF). -/
def decodeAssignment (b : Byte) : Option (Option (Fin 8)) :=
  if b = noByte then some none else (patternIndex b.toNat).map some

def encodeAssignment (a : Option (Fin 8)) : Byte := optByte (a.map Fin.val)

/-- A scene entry: eight assignments: 8 bytes. -/
def encodeScene (s : Eight (Option (Fin 8))) : List Byte := s.toList.map encodeAssignment

def decodeScene (b : List Byte) : Option (Eight (Option (Fin 8))) :=
  match b.mapM decodeAssignment with
  | some [a, b, c, d, e, f, g, h] => some ⟨a, b, c, d, e, f, g, h⟩
  | _ => none

def sceneSetting (i : Fin 4) : Setting :=
  { read := fun w => encodeScene (w.lights.scenes.get i)
    write := fun b w =>
      match decodeScene b with
      | some e => .stored (lightsUpdate (fun l => { l with scenes := l.scenes.set i e }) w) false
      | none => .invalid }

def locatePatternSetting : Setting :=
  enumerated (fun w => w.lights.locatePattern.val)
    (fun n w => (patternIndex n).map (fun i => lightsUpdate (fun l => { l with locatePattern := i }) w))

/-- The settings of section 10.9, by position. -/
def lightSetting : Nat → Option Setting
  | 0 => some (lightChannelSetting 0)
  | 1 => some (lightChannelSetting 1)
  | 2 => some (lightChannelSetting 2)
  | 3 => some (lightChannelSetting 3)
  | 4 => some (lightChannelSetting 4)
  | 5 => some (lightChannelSetting 5)
  | 6 => some (lightChannelSetting 6)
  | 7 => some (lightChannelSetting 7)
  | 8 => some (patternSetting (·.p2) (fun p l => { l with p2 := p }))
  | 9 => some (patternSetting (·.p3) (fun p l => { l with p3 := p }))
  | 10 => some (patternSetting (·.p4) (fun p l => { l with p4 := p }))
  | 11 => some (patternSetting (·.p5) (fun p l => { l with p5 := p }))
  | 12 => some (patternSetting (·.p6) (fun p l => { l with p6 := p }))
  | 13 => some (patternSetting (·.p7) (fun p l => { l with p7 := p }))
  | 14 => some (sceneSetting 0)
  | 15 => some (sceneSetting 1)
  | 16 => some (sceneSetting 2)
  | 17 => some (sceneSetting 3)
  | 18 => some locatePatternSetting
  | 19 =>
    some (number 0 1000 (fun w => w.lights.turnThreshold)
      (fun v => lightsUpdate (fun l => { l with turnThreshold := v.toNat })))
  | 20 => some (flag (·.lights.winchHazard) (fun v => lightsUpdate (fun l => { l with winchHazard := v })))
  | _ => none

/-! ## Chapter 11 (R201) -/

/-- alert_mask: bit n is set when the severity at position n belongs to the set (R212). -/
def maskByte (m : AlertMask) : Byte :=
  byteOf ((if m.info then 1 else 0) + (if m.warn then 2 else 0) + (if m.fault then 4 else 0))

def alertMaskSetting : Setting :=
  { read := fun w => [maskByte w.alertMask]
    write := fun b w =>
      match b with
      | [x] =>
        if x.toNat < 8 then
          .stored { w with alertMask := { info := x.getLsbD 0, warn := x.getLsbD 1, fault := x.getLsbD 2 } } false
        else .invalid
      | _ => .invalid }

/-! ## Identifiers (section 12.3) -/

/-- The setting at a position of a chapter's table. max_payout is judged against the line count (R165). -/
def settingAt (lineCount chapter position : Nat) : Option Setting :=
  match chapter with
  | 1 => packSetting position
  | 2 => budgetSetting position
  | 3 => supplySetting position
  | 4 => radioSetting position
  | 5 => authoritySetting position
  | 6 => interlockSetting position
  | 7 => steeringSetting position
  | 8 => driveSetting position
  | 9 => winchSetting lineCount position
  | 10 => lightSetting position
  | 11 => if position = 0 then some alertMaskSetting else none
  | _ => none

/-- The setting an identifier names: its high byte is the chapter, its low byte the position (section 12.3). -/
def settingOf (lineCount id : Nat) : Option Setting := settingAt lineCount (id / 256) (id % 256)

end Sys2Proof.Machine
end

