-- ==== Sys2Proof/Machine/SettingsStore.lean ====
section
/-! DEFINITION. The Settings Store (section 12.3): reading and writing the working copy, what a write does at once at the
block that owns the setting, restoring the factory values, and taking a commit. -/
namespace Sys2Proof.Machine

/-- A commit is writing (R209). -/
def State.committing (s : State) : Bool := s.store.writing.isSome

/-! ## What a write does at its event -/

/-- The channel's run restarts: its source is decided as if it had none (R197). -/
def forgetChannel (i : Fin 8) (s : State) : State :=
  let c := s.lights.chans.get i
  { s with
    lights := { s.lights with chans := if c.freeze.isNone then s.lights.chans.set i { c with source := none } else s.lights.chans } }

/-- A blinker that runs begins P2 again (R186). -/
def restartBlinker (s : State) : State := if s.lights.blinker.isSome then blinkerBegin 0 s else s

/-- A write of a pattern restarts every run of it, and the blinker when it is P2 and running (R197). -/
def patternWritten (p : Fin 8) (s : State) : State :=
  let s1 := forgetSource (fun c => !c.blinks && c.pattern == p) s
  lightsRefresh (if p = 2 then restartBlinker s1 else s1)

/-- A written gesture entry returns to CLEAR (R87). -/
def gestureWritten (i : Fin 4) (s : State) : State :=
  { s with radio := { s.radio with gestures := s.radio.gestures.set i .clear } }

/-- A written latch is judged from clear, and the gates that read it are evaluated (R126). -/
def latchAWritten (s : State) : State :=
  let k := s.interlock.conds
  reevaluate { k with latchA := s.cfg.interlock.latchA.judge k false } s

def latchBWritten (s : State) : State :=
  let k := s.interlock.conds
  reevaluate { k with latchB := s.cfg.interlock.latchB.judge k false } s

/-- What an accepted write in chapter 4 does at once (R90). -/
def radioWritten (position : Nat) (s : State) : State :=
  match position with
  | 18 => gestureWritten 0 s
  | 19 => gestureWritten 1 s
  | 20 => gestureWritten 2 s
  | 21 => gestureWritten 3 s
  | _ => s

/-- What an accepted write in chapter 6 does at once (R126). -/
def interlockWritten (position : Nat) (s : State) : State :=
  match position with
  | 8 => latchAWritten s
  | 9 => latchBWritten s
  | _ => reevaluate s.interlock.conds s

/-- What an accepted write in chapter 10 does at once (R197). -/
def lightsWritten (position : Nat) (s : State) : State :=
  match position with
  | 0 => lightsRefresh (forgetChannel 0 s)
  | 1 => lightsRefresh (forgetChannel 1 s)
  | 2 => lightsRefresh (forgetChannel 2 s)
  | 3 => lightsRefresh (forgetChannel 3 s)
  | 4 => lightsRefresh (forgetChannel 4 s)
  | 5 => lightsRefresh (forgetChannel 5 s)
  | 6 => lightsRefresh (forgetChannel 6 s)
  | 7 => lightsRefresh (forgetChannel 7 s)
  | 8 => patternWritten 2 s
  | 9 => patternWritten 3 s
  | 10 => patternWritten 4 s
  | 11 => patternWritten 5 s
  | 12 => patternWritten 6 s
  | 13 => patternWritten 7 s
  | 18 => lightsRefresh (forgetSource (fun c => c.source == some .locate) s)
  | _ => lightsRefresh s

/-- What an accepted write does at the block that owns the setting, beyond the working copy (R65, R90, R92, R126, R197,
R201). Every other setting is read at the moment its chapter names. -/
def settingWritten (chapter position : Nat) (s : State) : State :=
  match chapter with
  | 3 => if position = 3 then restartIdle s else s
  | 4 => radioWritten position s
  | 5 => if position = 0 then recompute s else s
  | 6 => interlockWritten position s
  | 10 => lightsWritten position s
  | 11 => judgeAlert s
  | _ => s

/-- SETTING_GUARD for a write of protection_mode that offers neither code (R23): the identifier, the value offered, and the
origin WRITE (0). -/
def guardWrite (id : Nat) (value : List Byte) (clamped : Bool) (s : State) : State :=
  if id = 0x010B ∧ clamped then enterLog .settingGuard [id, (byteAt value 0).toNat, 0] s else s

/-- The answer to an accepted write (R208). -/
def storedStatus (clamped : Bool) : Status := if clamped then .okClamped else .ok

/-- A setting is written (R208), with no commit writing: the answer and the state after. -/
def writeSetting (id : Nat) (value : List Byte) (s : State) : Status × State :=
  match settingOf s.retention.lineCount id with
  | none => (.invalid, s)
  | some d =>
    match d.write value s.cfg with
    | .invalid => (.invalid, s)
    | .stored w clamped =>
      (storedStatus clamped,
        settingWritten (id / 256) (id % 256) (guardWrite id value clamped (setWorking w s)))

/-- A setting is read (R208). -/
def readSetting (id : Nat) (s : State) : Status × List Byte :=
  match settingOf s.retention.lineCount id with
  | none => (.invalid, [])
  | some d => (.ok, d.read s.cfg)

/-! ## RESTORE_DEFAULTS (R211) -/

/-- The factory values as writes of them: max_payout is not below the line count (R165). DEDUCED (log entry 22). -/
def restoredSettings (lineCount : Nat) : Settings := coverCount lineCount factorySettings

/-- Every gesture entry returns to CLEAR (R87). -/
def clearGestures (s : State) : State :=
  { s with radio := { s.radio with gestures := s.radio.gestures.map (fun _ => .clear) } }

/-- The latches judged from clear (R126). -/
def latchesFromClear (w : InterlockSettings) (k : Conds) : Conds :=
  { k with latchA := w.latchA.judge k false, latchB := w.latchB.judge k false }

/-- Each owning block takes the restored values as a write of each of them (R211). R211 gives the owners no order; that the commands
are formed, and THROTTLE_NEUTRAL evaluated, before the restored gates and latches are judged is DESIGN CHOICE (log entry 50). -/
def restoreDefaults (s : State) : State :=
  let s1 := clearGestures (restartIdle (setWorking (restoredSettings s.retention.lineCount) s))
  let s2 := recompute s1
  let s3 := reevaluate (latchesFromClear s2.cfg.interlock s2.interlock.conds) s2
  judgeAlert (lightsRefresh (restartBlinker (forgetSource (fun c => !c.blinks) s3)))

/-! ## COMMIT (R209) -/

/-- An image of the working copy is taken and its write begins (R209). -/
def beginCommit (s : State) : State :=
  { s with store := { s.store with writing := some (s.cfg, timerAt s.now 60), commit := .writing } }

end Sys2Proof.Machine
end

