-- ==== Sys2Proof/Machine/AssistPort.lean ====
section
/-! DEFINITION. The Assist Port (chapter 12): a transaction with a complete request, its activity, its judgement and its
response; and the data of the responses that read a block's state. -/
namespace Sys2Proof.Machine

/-! ## Transactions (R204 to R206) -/

/-- What the owner of a request comes to: an answer with a status and data, or a start, whose START response then stands in
the slot (R53, R204). -/
inductive Reply where
  | answer (st : Status) (data : List Byte) (s : State)
  | started (s : State)
  deriving DecidableEq, Repr

/-- A taken request is activity: the window and the park idle timer restart, and ASSIST_ACTIVE is true (R205, R206). -/
def activity (s : State) : State :=
  notify [(.assistActive, true)]
    (restartIdle { s with assist := { s.assist with window := some (timerAt s.now 1000) } })

/-- A parked part wakes on any request taken other than PARK (R67, R205). -/
def wakeFor (wakes : Bool) (s : State) : State :=
  if wakes ∧ s.supply.state = .park then wake .assist s else s

/-- The request as its owner finds it: after the wake and the activity. -/
def taken (wakes : Bool) (s : State) : State := activity (wakeFor wakes s)

/-- The bytes on the data output in the transaction, and no request in progress any more (R204). -/
def setShifted (out : List Byte) (s : State) : State :=
  { s with assist := { s.assist with shifted := out, inProgress := [] } }

/-- The response replaces the slot (R204). -/
def respond (code : Byte) (st : Status) (data : List Byte) (s : State) : State :=
  { s with assist := { s.assist with slot := responseBytes st code data } }

/-- How a taken request ends: its response in the slot, and what was shifted out meanwhile (R204). -/
def finish (code : Byte) (out : List Byte) (r : Reply) : State :=
  match r with
  | .answer st data s => setShifted out (respond code st data s)
  | .started s => setShifted out s

/-- The judgement of a taken request: INVALID on a length above 30 or one the request does not accept, otherwise what its
owner answers (R205). -/
def judgeRequest (accepted : Bool) (act : State → Reply) (s : State) : Reply :=
  if accepted then act s else .answer .invalid [] s

/-- A transaction with a complete request (R204, R205). In RETAIN chip select is ignored. -/
def takeRequest (code : Byte) (wakes : Bool) (lengths : List Nat) (act : State → Reply) (r : Request) (s : State) :
    State :=
  if s.powered then
    finish code (shiftOut (clockedBytes r) s.assist.slot)
      (judgeRequest (lengths.contains r.params.length) act (taken wakes s))
  else s

/-- An answer without data that leaves the state as the request found it. -/
def refuse (st : Status) (s : State) : Reply := .answer st [] s

/-! ## Data of responses -/

/-- READ_STATUS (R207). -/
def statusData (s : State) : List Byte :=
  [byteOf s.supply.state.code, byteOf s.protection.effective.code, byteOf s.radio.link.code, byteOf s.quality,
    flagByte s.retention.flags.cold, flagByte s.retention.flags.pack, flagByte s.retention.flags.restart,
    byteOf s.store.commit.code, flagByte s.supply.backupReady, flagByte s.assistActive,
    byteOf s.retention.log.unread]

/-- V_cell as READ_PACK gives it: with no identity present it is 0 (R25). Between a pass that is NEW and the first set in ACTIVE it is
the passing set's, formed with the count stored before (0 with none): DESIGN CHOICE (log entry 46). -/
def reportedCell (s : State) : Nat := if s.retention.identity.isSome then s.monitor.latest.vCell else 0

/-- READ_PACK (R25). -/
def packData (s : State) : List Byte :=
  let m := s.monitor
  let trips := match s.retention.identity with | some i => i.trips | none => []
  let used := match s.retention.identity with | some i => i.limpUsed | none => false
  let left := match s.retention.identity with
    | some i => (match i.limpPeriod with | some t => t.remaining s.now | none => 0)
    | none => 0
  le16 m.latest.vMeas ++ le16 m.latest.iMeas ++ wide m.latest.vComp ++ wide (reportedCell s)
    ++ [byteOf s.estimate, byteOf (identityCells s.retention.identity)] ++ wide m.usedMah
    ++ [optByte m.remainingPct, byteOf s.voltageLevel.code, byteOf s.protection.energy.code,
        byteOf s.protection.effective.code, flagByte s.tripLimp, flagByte s.tripActive]
    ++ listField 3 4 (trips.map (fun t => le32 t.toNat))
    ++ [flagByte used] ++ le32 left ++ [s.cfg.pack.protectionMode]

/-- One class of the allotment: demand, grant, ratio (R41). -/
def shareData (c : ClassShare) : List Byte := le16 c.demand ++ le16 c.grant ++ le16 c.ratio

/-- READ_ALLOTMENT: the published record (R41, R43). -/
def allotmentData (a : Allotment) : List Byte :=
  le32 a.time.toNat ++ [byteOf a.supply.code, byteOf a.level.code, byteOf a.cells] ++ wide a.vComp ++ wide a.vFloor
    ++ le16 a.headroom ++ [flagByte a.tripFixed] ++ shareData a.classes.steer ++ shareData a.classes.signal
    ++ shareData a.classes.drive ++ shareData a.classes.winch ++ shareData a.classes.scene

/-- The claim part of an entry in READ_COMMANDS: authority, kind, value, reference, time left to expiry, expiry suspended
(R107); the fields of no claim carry no value, and the reference of a switch function is its mode or scene alone, without the switch
position of R94. DESIGN CHOICE (log entry 24). -/
def claimData (now : Time) (c : Option Claim) : List Byte :=
  match c with
  | none => [0, noByte] ++ noHalf ++ noHalf ++ List.replicate 4 0xFF ++ [0]
  | some c =>
    [1, byteOf c.kind.code] ++ leSigned16 c.value ++ leSigned16 c.reference
      ++ (match c.expiry with
          | some t => le32 (t.remaining now)
          | none => List.replicate 4 0xFF)
      ++ [flagByte c.expiry.isNone]

/-- The lockout part: whether one stands, when it began, then for a switch function the time left, for a proportional one
whether a neutral run is open and since when (R107). DESIGN CHOICE (log entry 24). -/
def lockoutData (now : Time) (l : Option Lockout) : List Byte :=
  match l with
  | none => [0] ++ List.replicate 9 0xFF
  | some l =>
    [1] ++ le32 l.began.toNat
      ++ (match l.ends, l.run with
          | some t, _ => [0] ++ le32 (t.remaining now)
          | none, some r => [1] ++ le32 r.start.toNat
          | none, none => [0] ++ List.replicate 4 0xFF)

/-- READ_COMMANDS (R107). -/
def commandsData (s : State) : List Byte :=
  let k := s.authority.commands
  leSigned16 k.throttle ++ leSigned16 k.steer ++ [byteOf k.mode.code] ++ leSigned16 k.winch
    ++ [byteOf k.scene, flagByte s.authority.neutral]
    ++ allFns.flatMap (fun f =>
      claimData s.now (s.authority.entries.get f).claim ++ lockoutData s.now (s.authority.entries.get f).lockout)

/-! ## READ_LOG (R200) -/

/-- The read point moves to the next newer record and the flag is cleared (R200). -/
def readOne (s : State) : State :=
  judgeAlert
    { s with
      retention := { s.retention with
        log := { s.retention.log with unread := s.retention.log.unread - 1, overwritten := false } } }

/-- READ_LOG with nothing unread clears the flag (R200). -/
def readNone (s : State) : State :=
  { s with retention := { s.retention with log := { s.retention.log with overwritten := false } } }

/-- The Event Log answers a READ_LOG (R200). -/
def readLog (s : State) : Reply :=
  match s.retention.log.unreadRecords with
  | r :: _ =>
    .answer .ok (recordBytes r s.retention.log.overwritten (s.retention.log.unread - 1)) (readOne s)
  | [] => .answer .empty [flagByte s.retention.log.overwritten] (readNone s)

/-! ## CLAIM and RELEASE (R94, R95, R99) -/

/-- The kinds a function allows (R91). -/
def kindAllowed (f : Fn) (k : ClaimKind) : Bool := f.proportional || k == .full

/-- A mode or a scene must be one (R94). -/
def valuePossible (f : Fn) (v : Int) : Bool := f.proportional || (decide (0 ≤ v) && decide (v ≤ 3))

/-- The assist value limited to its range (R94). -/
def claimValue (f : Fn) (k : ClaimKind) (v : Int) : Int :=
  if f.proportional then (match k with | .full | .blend => clampI (-1000) 1000 v | .cap => clampI 0 1000 v) else v

/-- THROTTLE and WINCH need the link UP (R94). -/
def needsLink : Fn → Bool
  | .throttle | .winch => true
  | .steer | .steerMode | .lights => false

/-- OK, or OK_CLAMPED when the value was limited. -/
def claimStatus (f : Fn) (k : ClaimKind) (v : Int) : Status := storedStatus (claimValue f k v != v)

/-- A CLAIM with a known function and kind, both possible (R94, R95). -/
def judgeClaim (f : Fn) (k : ClaimKind) (v : Int) (s : State) : Reply :=
  match (s.authority.entries.get f).claim with
  | some c => .answer (claimStatus f k v) [] (refreshClaim f c k (claimValue f k v) s)
  | none =>
    if (s.authority.entries.get f).lockout.isSome then refuse .lockedOut s
    else if needsLink f ∧ s.radio.link ≠ .up then refuse .refused s
    else .answer (claimStatus f k v) [] (takeClaim f k (claimValue f k v) s)

/-- The CLAIM request (R94, R95): function, kind, value (signed). -/
def claimRequest (p : List Byte) (s : State) : Reply :=
  match fnOfCode (byteAt p 0).toNat, claimKindOfCode (byteAt p 1).toNat with
  | some f, some k =>
    let v := int16 (byteAt p 2) (byteAt p 3)
    if kindAllowed f k && valuePossible f v then judgeClaim f k v s else refuse .invalid s
  | _, _ => refuse .invalid s

/-- The RELEASE request (R99): function. -/
def releaseRequest (p : List Byte) (s : State) : Reply :=
  match fnOfCode (byteAt p 0).toNat with
  | none => refuse .invalid s
  | some f =>
    if (s.authority.entries.get f).claim.isSome then .answer .ok [] (endClaimAlone .released f s)
    else refuse .notHeld s

/-! ## WINCH_JOB (R170, R171) -/

/-- A kind that needs an amount (R170). -/
def JobKind.needsAmount : JobKind → Bool
  | .haulBy | .payoutBy | .haulToTension | .freeFor => true
  | .haulToStow => false

/-- The amount as accepted (R170): counts, mA against stall_ma as it stands, or ms. -/
def acceptedAmount (stallMa : Nat) (k : JobKind) (a : Nat) : Nat :=
  match k with
  | .haulBy | .payoutBy => clampN 1 60000 a
  | .haulToTension => clampN 100 (stallMa - 500) a
  | .freeFor => clampN 100 60000 a
  | .haulToStow => a

/-- The amount is limited; a tension amount at or above stall_ma − 500 counts as limited (R170). -/
def amountLimited (stallMa : Nat) (k : JobKind) (a : Nat) : Bool :=
  match k with
  | .haulToTension => decide (a < 100) || decide (stallMa - 500 ≤ a)
  | .haulBy | .payoutBy | .haulToStow | .freeFor => acceptedAmount stallMa k a != a

/-- The job record as accepted, and whether a field was limited (R170). -/
def acceptedJob (stallMa : Nat) (k : JobKind) (duty timeout tag : Nat) (amount : Option Nat) : Job × Bool :=
  ({ kind := k, amount := amount.map (acceptedAmount stallMa k), duty := clampN 100 1000 duty,
     timeout := clampN 1 60000 timeout, tag := tag },
   clampN 100 1000 duty != duty || clampN 1 60000 timeout != timeout ||
     (match amount with
      | some a => amountLimited stallMa k a
      | none => false))

/-- The job joins the tail of the queue once the Authority Table has taken the acceptance (R171). -/
def acceptJob (j : Job) (s : State) : State :=
  let s1 := claimForJob s
  { s1 with winch := { s1.winch with queue := s1.winch.queue ++ [j] } }

/-- The rows of R170 below the first. -/
def judgeJob (j : Job) (limited : Bool) (s : State) : Reply :=
  if 4 ≤ s.winch.queue.length then refuse .queueFull s
  else if s.authority.entries.winch.lockout.isSome then refuse .lockedOut s
  else if s.radio.link ≠ .up then refuse .refused s
  else if s.supply.state ≠ .active ∨ s.protection.effective = .cutoff ∨ s.winch.st = .stalled then refuse .refused s
  else .answer (storedStatus limited) [] (acceptJob j s)

/-- The WINCH_JOB request (R170): kind, duty, timeout, tag, and the amount when its length is 8. -/
def jobRequestTaken (p : List Byte) (s : State) : Reply :=
  match jobKindOfCode (byteAt p 0).toNat with
  | none => refuse .invalid s
  | some k =>
    if k.needsAmount != (p.length == 8) then refuse .invalid s
    else
      let amount := if p.length = 8 then some (num16 (byteAt p 6) (byteAt p 7)) else none
      let a := acceptedJob s.cfg.winch.stallMa k (num16 (byteAt p 1) (byteAt p 2)) (num16 (byteAt p 3) (byteAt p 4))
        (byteAt p 5).toNat amount
      judgeJob a.1 a.2 s

/-! ## The other requests -/

/-- WINCH_CANCEL (R175). -/
def cancelRequest (s : State) : Reply :=
  if s.winch.queue.isEmpty then refuse .empty s else .answer .ok [] (notifyWinch (revokeJobs s))

/-- WINCH_CLEAR (R168). -/
def clearRequest (s : State) : Reply :=
  if s.winch.st = .stalled then .answer .ok [] (clearStall s) else refuse .refused s

/-- The assist hazard flag is set or cleared (R187). -/
def setHazard (v : Bool) (s : State) : State :=
  lightsRefresh { s with lights := { s.lights with hazardAssist := v } }

/-- HAZARD (R187): SET (0) or CLEAR (1). -/
def hazardRequest (p : List Byte) (s : State) : Reply :=
  if byteAt p 0 = 0 then .answer .ok [] (setHazard true s)
  else if byteAt p 0 = 1 then .answer .ok [] (setHazard false s)
  else refuse .invalid s

/-- ACK_LOCATE (R195). -/
def ackRequest (s : State) : Reply :=
  if s.lights.locate then .answer .ok [] (acknowledgeLocate .request s) else refuse .refused s

/-- LIMP_HOME (R21). -/
def limpHomeRequest (s : State) : Reply :=
  if mayGrant s then .answer .ok [] (grantLimpHome .request s)
  else if s.running ∧ s.voltageLevel = .cutoff then refuse .used s
  else refuse .refused s

/-- PARK (R64). -/
def parkRequest (s : State) : Reply :=
  match s.supply.state with
  | .active => .answer .ok [] (enterPark .request s)
  | .park => .answer .ok [] s
  | .qualify | .retain => refuse .refused s

/-- READ_SETTING (R208): identifier. -/
def readSettingRequest (p : List Byte) (s : State) : Reply :=
  let r := readSetting (num16 (byteAt p 0) (byteAt p 1)) s
  .answer r.1 r.2 s

/-- WRITE_SETTING (R208): identifier, value. -/
def writeSettingRequest (p : List Byte) (s : State) : Reply :=
  if s.committing then refuse .busy s
  else
    let r := writeSetting (num16 (byteAt p 0) (byteAt p 1)) (p.drop 2) s
    .answer r.1 [] r.2

/-- COMMIT (R209). -/
def commitRequest (s : State) : Reply :=
  if s.committing then refuse .busy s
  else if s.supply.backupReady then .answer .ok [] (beginCommit s)
  else refuse .lowReserve s

/-- RESTORE_DEFAULTS (R211). -/
def restoreRequest (s : State) : Reply :=
  if s.committing then refuse .busy s else .answer .ok [] (restoreDefaults s)

/-- The three start-cause flags are cleared (R54). -/
def clearCauses (s : State) : State :=
  { s with retention := { s.retention with flags := { cold := false, pack := false, restart := false } } }

/-- RESTART (R53). -/
def restartRequest (s : State) : Reply :=
  if s.committing then refuse .busy s else .started (restart s)

end Sys2Proof.Machine
end

