-- ==== Sys2Proof/Machine/Requests.lean ====
section
/-! DEFINITION. The meanings of the assist requests (section 12.2): each with its code, the parameter lengths it accepts, and
what its owner answers. -/
namespace Sys2Proof.Machine

/-- What a command comes to. Every command of this part has an effect in every state, which may be none. -/
abbrev Outcome := Host.Outcome State Fault Refusal

/-- An event that occurs when `occurs` says so, and that is no event of the part otherwise: an expiry of a timer that is not
due, a pin or a line that is not served. -/
def event (occurs : Bool) (effect : State → State) (s : State) : Outcome := .next (if occurs then effect s else s)

/-- NOP (R207). -/
def execNop (r : Request) (s : State) : Outcome := .next (takeRequest 0x01 true [0] (fun s => .answer .ok [] s) r s)

/-- READ_STATUS (R207). -/
def execReadStatus (r : Request) (s : State) : Outcome :=
  .next (takeRequest 0x02 true [0] (fun s => .answer .ok (statusData s) s) r s)

/-- READ_PACK (R25). -/
def execReadPack (r : Request) (s : State) : Outcome :=
  .next (takeRequest 0x03 true [0] (fun s => .answer .ok (packData s) s) r s)

/-- READ_ALLOTMENT (R43). -/
def execReadAllotment (r : Request) (s : State) : Outcome :=
  .next (takeRequest 0x04 true [0] (fun s => .answer .ok (allotmentData s.budget) s) r s)

/-- READ_COMMANDS (R107). -/
def execReadCommands (r : Request) (s : State) : Outcome :=
  .next (takeRequest 0x05 true [0] (fun s => .answer .ok (commandsData s) s) r s)

/-- CLAIM (R94, R95). -/
def execClaim (r : Request) (s : State) : Outcome := .next (takeRequest 0x06 true [4] (claimRequest r.params) r s)

/-- RELEASE (R99). -/
def execRelease (r : Request) (s : State) : Outcome := .next (takeRequest 0x07 true [1] (releaseRequest r.params) r s)

/-- WINCH_JOB (R170): 8 parameter bytes with an amount, 6 without. -/
def execWinchJob (r : Request) (s : State) : Outcome :=
  .next (takeRequest 0x08 true [6, 8] (jobRequestTaken r.params) r s)

/-- WINCH_CANCEL (R175). -/
def execWinchCancel (r : Request) (s : State) : Outcome := .next (takeRequest 0x09 true [0] cancelRequest r s)

/-- WINCH_CLEAR (R168). -/
def execWinchClear (r : Request) (s : State) : Outcome := .next (takeRequest 0x0A true [0] clearRequest r s)

/-- HAZARD (R187). -/
def execHazard (r : Request) (s : State) : Outcome := .next (takeRequest 0x0B true [1] (hazardRequest r.params) r s)

/-- ACK_LOCATE (R195). -/
def execAckLocate (r : Request) (s : State) : Outcome := .next (takeRequest 0x0C true [0] ackRequest r s)

/-- LIMP_HOME (R21). -/
def execLimpHome (r : Request) (s : State) : Outcome := .next (takeRequest 0x0D true [0] limpHomeRequest r s)

/-- PARK (R64), which wakes no parked part. -/
def execPark (r : Request) (s : State) : Outcome := .next (takeRequest 0x0E false [0] parkRequest r s)

/-- READ_LOG (R200). -/
def execReadLog (r : Request) (s : State) : Outcome := .next (takeRequest 0x0F true [0] readLog r s)

/-- READ_SETTING (R208): a 16-bit identifier. -/
def execReadSetting (r : Request) (s : State) : Outcome :=
  .next (takeRequest 0x10 true [2] (readSettingRequest r.params) r s)

/-- The lengths WRITE_SETTING accepts: an identifier and at least one byte of value, up to the 30 of R205. -/
def writeLengths : List Nat := (List.range 28).map (fun n => n + 3)

/-- WRITE_SETTING (R208). -/
def execWriteSetting (r : Request) (s : State) : Outcome :=
  .next (takeRequest 0x11 true writeLengths (writeSettingRequest r.params) r s)

/-- COMMIT (R209). -/
def execCommit (r : Request) (s : State) : Outcome := .next (takeRequest 0x12 true [0] commitRequest r s)

/-- RESTORE_DEFAULTS (R211). -/
def execRestoreDefaults (r : Request) (s : State) : Outcome := .next (takeRequest 0x13 true [0] restoreRequest r s)

/-- CLEAR_CAUSES (R54). -/
def execClearCauses (r : Request) (s : State) : Outcome :=
  .next (takeRequest 0x14 true [0] (fun s => .answer .ok [] (clearCauses s)) r s)

/-- RESTART (R53). -/
def execRestart (r : Request) (s : State) : Outcome := .next (takeRequest 0x15 true [0] restartRequest r s)

/-- A complete request whose code is not in the catalogue is answered UNKNOWN, whatever its length (R205). -/
def execUnknownRequest (code : Byte) (r : Request) (s : State) : Outcome :=
  .next (takeRequest code true [r.params.length] (refuse .unknown) r s)

/-- A transaction released before its request is complete takes nothing; the slot stands (R204). -/
def execIncompleteTransaction (bytes : List Byte) (s : State) : Outcome :=
  event s.powered (fun s => setShifted (shiftOut bytes.length s.assist.slot) s) s

/-- The expiry of the activity window (R206). -/
def execAssistWindowExpiry (s : State) : Outcome :=
  event (dueAt s.assist.window s.now)
    (fun s => notify [(.assistActive, false)] { s with assist := { s.assist with window := none } }) s

/-- The end of a commit's write (R209, R210). -/
def execCommitEnd (readBackOk : Bool) (s : State) : Outcome :=
  match s.store.writing with
  | some (image, t) => event (t.due s.now) (commitEnded image readBackOk) s
  | none => .next s

end Sys2Proof.Machine
end

