-- ==== Sys2Proof/Machine/ActuatorEvents.lean ====
section
/-! DEFINITION. The meanings of the events of the steering, the drive, the winch and the lights. -/
namespace Sys2Proof.Machine

/-! ## Steering and drive -/

/-- A servo frame start (R128). -/
def execSteerFrame (s : State) : Outcome :=
  event (s.powered && s.steering.clock.due s.now) (fun s => notifySteering (steerFrameStep s)) s

/-- The expiry of the transition timer in TRANSITION (R139). -/
def execTransitionTimerExpiry (s : State) : Outcome :=
  event (s.steering.phase == .transition && dueAt s.steering.timer s.now)
    (fun s => notifySteering (forceTransition s)) s

/-- An ESC frame start (R145); the Light Controller reads d_eff for the REVERSE role (R184). -/
def execEscFrame (s : State) : Outcome :=
  event (s.powered && s.drive.clock.due s.now) (fun s => lightsRefresh (driveFrame s)) s

/-! ## Winch -/

/-- A winch frame start (R157). -/
def execWinchFrame (s : State) : Outcome :=
  event (s.powered && s.winch.clock.due s.now) (fun s => notifyWinch (winchFrameStep s)) s

/-- The expiry of the STOPPING dwell (R160). -/
def execStoppingDwellExpiry (s : State) : Outcome :=
  event (s.winch.st == .stopping && dueAt s.winch.dwell s.now) (winchEnter .idle 0) s

/-- A pulse on ENC (R164). -/
def execEncPulse (s : State) : Outcome := event s.powered (fun s => notifyWinch (encPulseStep s)) s

/-- A change of the HOOK pin begins a new run of the level it goes to (R166). -/
def execHookInputChange (closed : Bool) (s : State) : Outcome :=
  event (s.pins.hook != closed)
    (fun s =>
      { s with
        pins := { s.pins with hook := closed }
        winch := { s.winch with hookRun := if s.powered then some (timerAt s.now 20) else none } }) s

/-- HOOK has held its level for the debounce: HOOK_STOWED takes it, and a change goes to the Interlock Unit and then to the
Supply Controller (R166, R67). -/
def hookJudged (s : State) : State :=
  let v := s.pins.hook
  let s1 : State := { s with winch := { s.winch with hookRun := none } }
  if v = s.winch.stowed then s1
  else
    let s2 := hookChange v s1
    hookWakes v (notify [(.hookStowed, v), (.winchMoving, s2.winchMoving)] s2)

/-- The expiry of the HOOK debounce (R166). -/
def execHookDebounceExpiry (s : State) : Outcome := event (dueAt s.winch.hookRun s.now) hookJudged s

/-- The expiry of the stall-clear neutral run (R168). -/
def execStallNeutralRunExpiry (s : State) : Outcome :=
  event (s.winch.st == .stalled && dueAt s.winch.neutralRun s.now) clearStall s

/-- The running job's timeout is due (R174). -/
def timeoutDue (s : State) : Bool :=
  match s.winch.running with
  | some r => r.timeout.due s.now
  | none => false

/-- The expiry of a job's timeout (R174). -/
def execJobTimeout (s : State) : Outcome :=
  event (timeoutDue s) (fun s => notifyWinch (endJob .timeout (winchStop s))) s

/-- The FREE_FOR time of the running job is due (R173). -/
def freeForDue (s : State) : Bool :=
  match s.winch.running with
  | some r => dueAt r.freeFor s.now
  | none => false

/-- The expiry of a FREE_FOR time (R173). -/
def execFreeForExpiry (s : State) : Outcome :=
  event (freeForDue s) (fun s => notifyWinch (endJob .done (winchStop s))) s

/-! ## Lights -/

/-- The expiry of a channel's present step (R182, R191). -/
def execPatternStep (ch : Fin 8) (s : State) : Outcome :=
  event (dueAt (s.lights.chans.get ch).timer s.now) (channelStepExpired ch) s

/-- The expiry of the blinker's present step (R186). -/
def execBlinkerStep (s : State) : Outcome :=
  match s.lights.blinker with
  | some b => event (b.timer.due s.now) (blinkerBegin (s.cfg.lights.p2.nextStep b.step)) s
  | none => .next s

/-- A change of the TILT pin begins a new run of the level it goes to (R193). -/
def execTiltInputChange (asserted : Bool) (s : State) : Outcome :=
  event (s.pins.tilt != asserted)
    (fun s =>
      { s with
        pins := { s.pins with tilt := asserted }
        lights := { s.lights with tiltRun := if s.powered then some (timerAt s.now 200) else none } }) s

/-- The tilt arming timer follows TILTED (R194). -/
def armTiltTimer (v : Bool) (s : State) : State :=
  { s with lights := { s.lights with tiltArm := if v then some (timerAt s.now 3000) else none } }

/-- TILT has held its level for the debounce: TILTED takes it, and a change goes to the Interlock Unit, the Supply Controller
and the tilt arming timer (R193). -/
def tiltJudged (s : State) : State :=
  let v := s.pins.tilt
  let s1 : State := { s with lights := { s.lights with tiltRun := none } }
  if v = s.lights.tilted then s1
  else
    armTiltTimer v
      (tiltWakes v (notify [(.tilted, v)] { s1 with lights := { s1.lights with tilted := v } }))

/-- The expiry of the TILT debounce (R193). -/
def execTiltDebounceExpiry (s : State) : Outcome := event (dueAt s.lights.tiltRun s.now) tiltJudged s

/-- The expiry of the tilt arming timer (R194). -/
def execTiltArmingExpiry (s : State) : Outcome :=
  event (dueAt s.lights.tiltArm s.now)
    (fun s => armLocate .tilt { s with lights := { s.lights with tiltArm := none } }) s

/-- The expiry of the link arming timer (R194). -/
def execLinkArmingExpiry (s : State) : Outcome :=
  event (dueAt s.lights.linkArm s.now)
    (fun s => armLocate .link { s with lights := { s.lights with linkArm := none } }) s

end Sys2Proof.Machine
end

