-- ==== Sys2Proof/Machine/PackEvents.lean ====
section
/-! DEFINITION. The meanings of the pack's and the supply's events: sample sets, trips, limp-home, attach and removal, the
backup cell, the servo rail, the idle timer. -/
namespace Sys2Proof.Machine

/-! ## Sample sets -/

/-- The sampling clock falls into the period of the supply state (R1). -/
def sampleClock (s : State) : State :=
  { s with monitor := { s.monitor with clock := s.monitor.clock.fall (samplePeriod s.supply.state) } }

/-- A set completed in QUALIFY (R3): compensated voltage, allotment, qualification. That remaining_pct is derived on it too, so that a
write of capacity_mah counts at the next set in QUALIFY (R10) and not only at the next one in ACTIVE or PARK (R26), is DESIGN CHOICE
(log entry 52). -/
def qualifySampleSet (vMeas iMeas iServo iWinch : Nat) (s : State) : State :=
  qualifySet vMeas (publishAllotment (deriveEnergyFigures (recordSet vMeas iMeas iServo iWinch s)))

/-- The Winch Controller judges a set completed in ACTIVE (R167, R173). -/
def winchTakesSet (s : State) : State :=
  if s.supply.state = .active then notifyWinch (winchSet s) else s

/-- A set completed in ACTIVE or PARK (R3): monitor, protection, winch, allotment. -/
def runningSampleSet (vMeas iMeas iServo iWinch : Nat) (s : State) : State :=
  publishAllotment (winchTakesSet (protectionSet s.components (monitorSet vMeas iMeas iServo iWinch s)))

/-- A completed sample set, its readings taken by R1. -/
def sampleSet (vMeas iMeas iServo iWinch : Nat) (s : State) : State :=
  if s.supply.state = .qualify then qualifySampleSet vMeas iMeas iServo iWinch (sampleClock s)
  else runningSampleSet vMeas iMeas iServo iWinch (sampleClock s)

/-- The completion of a sample set (R1, R3). -/
def execSampleSet (vMeas iMeas iServo iWinch : Int) (s : State) : Outcome :=
  event (s.powered && s.monitor.clock.due s.now)
    (sampleSet (taken16 vMeas) (taken16 iMeas) (taken16 iServo) (taken16 iWinch)) s

/-- The expiry of the trip hold (R12). -/
def execTripHoldExpiry (s : State) : Outcome :=
  event (dueAt s.monitor.tripHold s.now)
    (fun s => notify [(.tripActive, false)] { s with monitor := { s.monitor with tripHold := none } }) s

/-- The trip-LIMP of the identity in force is due to end (R13). -/
def tripLimpDue (s : State) : Bool :=
  s.running &&
    (match s.retention.identity with
     | some i => dueAt i.tripLimp s.now
     | none => false)

/-- The expiry of trip-LIMP (R13). -/
def execTripLimpExpiry (s : State) : Outcome := event (tripLimpDue s) endTripLimp s

/-- The limp-home period of the identity in force is due to end (R22). -/
def limpHomeDue (s : State) : Bool :=
  s.running &&
    (match s.retention.identity with
     | some i => dueAt i.limpPeriod s.now
     | none => false)

/-- The expiry of a limp-home period (R22). -/
def execLimpHomePeriodExpiry (s : State) : Outcome := event (limpHomeDue s) endLimpHome s

/-! ## The pack and the backup cell -/

/-- The pack is attached (R50). -/
def attaches (railMv backupMv : Nat) (s : State) : Bool :=
  s.supply.state == .retain && decide (2300 ≤ railMv) && decide (backupMv < railMv)

/-- An attach is taken at once, or at the end of a commit that is still writing (R210). -/
def takeAttach (railMv backupMv : Nat) (s : State) : State :=
  if s.committing then { s with supply := { s.supply with attachWaiting := some (railMv, backupMv) } }
  else attach backupMv s

/-- The pack rail rises (R50). -/
def execPackAttach (railMv backupMv : Nat) (s : State) : Outcome :=
  event (attaches railMv backupMv s) (takeAttach railMv backupMv) s

/-- The pack rail falls (R50, R61), the backup cell at a voltage of its own or absent, which is 0; in RETAIN an attach that waits
is taken back. -/
def execPackRemoved (railMv backupMv : Nat) (s : State) : Outcome :=
  event (railGone railMv backupMv)
    (fun s =>
      if s.powered then removePack backupMv s else { s with supply := { s.supply with attachWaiting := none } }) s

/-- The backup cell falls below the retention minimum in RETAIN (R56). -/
def execRetentionLoss (backupMv : Nat) (s : State) : Outcome :=
  event (s.supply.state == .retain && s.retention.valid && decide (backupMv < 2000)) loseRetention s

/-- A measurement of the backup cell (R62). -/
def execBackupMeasurement (mv : Nat) (s : State) : Outcome :=
  event (s.powered && s.supply.backupClock.due s.now) (backupMeasured mv) s

/-- A backup cell fitted while no pack is present powers the Retention Domain with its contents invalid (R56). -/
def execBackupCellFitted (s : State) : Outcome :=
  event (s.supply.state == .retain && s.supply.attachWaiting.isNone) loseRetention s

/-! ## The servo rail and the idle timer -/

/-- A change of SRV_PG (R63). -/
def execSrvPgChange (good : Bool) (s : State) : Outcome := .next (srvPgChanged good s)

/-- The expiry of the rail wait timer (R63). -/
def execRailWaitExpiry (s : State) : Outcome :=
  event (s.supply.rail == .wait && dueAt s.supply.railWait s.now) railWaitExpired s

/-- The expiry of the park idle timer (R65). -/
def execParkIdleExpiry (s : State) : Outcome :=
  event (s.supply.state == .active && dueAt s.supply.idle s.now) idleExpired s

end Sys2Proof.Machine
end

