-- ==== Sys2Proof/Machine/RadioEvents.lean ====
section
/-! DEFINITION. The meanings of the radio link's events and of the Authority Table's expiries. -/
namespace Sys2Proof.Machine

/-- An assembled frame (R71, R72); a frame that is not valid is dropped. -/
def execRadioFrame (bytes : List Byte) (rx : Reception) (s : State) : Outcome :=
  event (s.powered && frameValid bytes rx) (fun s => takeFrame (frameOf s.now bytes) s) s

/-- The expiry of the hold timer (R74). -/
def execHoldTimerExpiry (s : State) : Outcome := event (dueAt s.radio.hold s.now) holdExpired s

/-- The link states in which the failsafe timer runs (R74). -/
def LinkState.served : LinkState → Bool
  | .rearm | .up | .holding => true
  | .noLink | .lost => false

/-- The expiry of the failsafe timer (R74). -/
def execFailsafeTimerExpiry (s : State) : Outcome :=
  event (s.radio.link.served && dueAt s.radio.failsafe s.now) failsafeExpired s

/-- The opening of the reply slot (R82). -/
def execTelemetryReply (lineIdle : Bool) (s : State) : Outcome :=
  match s.radio.slot with
  | some count => event s.powered (replySlot lineIdle count) s
  | none => .next s

/-- A claim's expiry is due (R97); a suspended one is not. -/
def claimDue (f : Fn) (s : State) : Bool :=
  match (s.authority.entries.get f).claim with
  | some c => dueAt c.expiry s.now
  | none => false

/-- The expiry of a claim (R97). -/
def execClaimExpiry (f : Fn) (s : State) : Outcome := event (claimDue f s) (endClaimAlone .expired f) s

/-- The neutral run of a lockout is due (R103). -/
def lockoutRunDue (f : Fn) (s : State) : Bool :=
  match (s.authority.entries.get f).lockout with
  | some l => dueAt l.run s.now
  | none => false

/-- The expiry of a lockout's neutral run ends the lockout (R103). -/
def execLockoutNeutralRunExpiry (f : Fn) (s : State) : Outcome := event (lockoutRunDue f s) (setLockout f none) s

/-- The end time of a switch lockout is due (R103). -/
def lockoutEndDue (f : Fn) (s : State) : Bool :=
  match (s.authority.entries.get f).lockout with
  | some l => dueAt l.ends s.now
  | none => false

/-- The end of a switch lockout (R103). -/
def execSwitchLockoutExpiry (f : Fn) (s : State) : Outcome := event (lockoutEndDue f s) (setLockout f none) s

end Sys2Proof.Machine
end

