-- ==== Sys2Proof/Machine/Dispatch.lean ====
section
/-! DEFINITION. What each command does: one arm per command, each a direct call of its meaning. -/
namespace Sys2Proof.Machine

def exec (i : Instr) (s : State) : Host.Outcome State Fault Refusal :=
  match i with
  | .nop r => Sys2Proof.Machine.execNop r s
  | .readStatus r => Sys2Proof.Machine.execReadStatus r s
  | .readPack r => Sys2Proof.Machine.execReadPack r s
  | .readAllotment r => Sys2Proof.Machine.execReadAllotment r s
  | .readCommands r => Sys2Proof.Machine.execReadCommands r s
  | .claim r => Sys2Proof.Machine.execClaim r s
  | .release r => Sys2Proof.Machine.execRelease r s
  | .winchJob r => Sys2Proof.Machine.execWinchJob r s
  | .winchCancel r => Sys2Proof.Machine.execWinchCancel r s
  | .winchClear r => Sys2Proof.Machine.execWinchClear r s
  | .hazard r => Sys2Proof.Machine.execHazard r s
  | .ackLocate r => Sys2Proof.Machine.execAckLocate r s
  | .limpHome r => Sys2Proof.Machine.execLimpHome r s
  | .park r => Sys2Proof.Machine.execPark r s
  | .readLog r => Sys2Proof.Machine.execReadLog r s
  | .readSetting r => Sys2Proof.Machine.execReadSetting r s
  | .writeSetting r => Sys2Proof.Machine.execWriteSetting r s
  | .commit r => Sys2Proof.Machine.execCommit r s
  | .restoreDefaults r => Sys2Proof.Machine.execRestoreDefaults r s
  | .clearCauses r => Sys2Proof.Machine.execClearCauses r s
  | .restart r => Sys2Proof.Machine.execRestart r s
  | .sampleSet vMeas iMeas iServo iWinch => Sys2Proof.Machine.execSampleSet vMeas iMeas iServo iWinch s
  | .tripHoldExpiry => Sys2Proof.Machine.execTripHoldExpiry s
  | .tripLimpExpiry => Sys2Proof.Machine.execTripLimpExpiry s
  | .limpHomePeriodExpiry => Sys2Proof.Machine.execLimpHomePeriodExpiry s
  | .packAttach rail backup => Sys2Proof.Machine.execPackAttach rail backup s
  | .packRemoved rail backup => Sys2Proof.Machine.execPackRemoved rail backup s
  | .retentionLoss backup => Sys2Proof.Machine.execRetentionLoss backup s
  | .backupMeasurement mv => Sys2Proof.Machine.execBackupMeasurement mv s
  | .srvPgChange good => Sys2Proof.Machine.execSrvPgChange good s
  | .railWaitExpiry => Sys2Proof.Machine.execRailWaitExpiry s
  | .parkIdleExpiry => Sys2Proof.Machine.execParkIdleExpiry s
  | .radioFrame bytes rx => Sys2Proof.Machine.execRadioFrame bytes rx s
  | .holdTimerExpiry => Sys2Proof.Machine.execHoldTimerExpiry s
  | .failsafeTimerExpiry => Sys2Proof.Machine.execFailsafeTimerExpiry s
  | .telemetryReply idle => Sys2Proof.Machine.execTelemetryReply idle s
  | .claimExpiry f => Sys2Proof.Machine.execClaimExpiry f s
  | .lockoutNeutralRunExpiry f => Sys2Proof.Machine.execLockoutNeutralRunExpiry f s
  | .switchLockoutExpiry f => Sys2Proof.Machine.execSwitchLockoutExpiry f s
  | .steerFrame => Sys2Proof.Machine.execSteerFrame s
  | .transitionTimerExpiry => Sys2Proof.Machine.execTransitionTimerExpiry s
  | .escFrame => Sys2Proof.Machine.execEscFrame s
  | .winchFrame => Sys2Proof.Machine.execWinchFrame s
  | .stoppingDwellExpiry => Sys2Proof.Machine.execStoppingDwellExpiry s
  | .encPulse => Sys2Proof.Machine.execEncPulse s
  | .hookDebounceExpiry => Sys2Proof.Machine.execHookDebounceExpiry s
  | .stallNeutralRunExpiry => Sys2Proof.Machine.execStallNeutralRunExpiry s
  | .jobTimeout => Sys2Proof.Machine.execJobTimeout s
  | .freeForExpiry => Sys2Proof.Machine.execFreeForExpiry s
  | .patternStep ch => Sys2Proof.Machine.execPatternStep ch s
  | .blinkerStep => Sys2Proof.Machine.execBlinkerStep s
  | .tiltDebounceExpiry => Sys2Proof.Machine.execTiltDebounceExpiry s
  | .tiltArmingExpiry => Sys2Proof.Machine.execTiltArmingExpiry s
  | .linkArmingExpiry => Sys2Proof.Machine.execLinkArmingExpiry s
  | .assistWindowExpiry => Sys2Proof.Machine.execAssistWindowExpiry s
  | .commitEnd ok => Sys2Proof.Machine.execCommitEnd ok s
  | .unknownRequest code r => Sys2Proof.Machine.execUnknownRequest code r s
  | .incompleteTransaction bytes => Sys2Proof.Machine.execIncompleteTransaction bytes s
  | .backupCellFitted => Sys2Proof.Machine.execBackupCellFitted s
  | .hookInputChange closed => Sys2Proof.Machine.execHookInputChange closed s
  | .tiltInputChange asserted => Sys2Proof.Machine.execTiltInputChange asserted s

end Sys2Proof.Machine
end

