-- ==== Sys2Proof/Safety.lean ====
section
/-! DEFINITION. The terms in which claims about the part are stated: what an event leaves in the log, what an evaluation of the
Interlock Unit cannot move, the answer to a request, and the invariants that every step keeps. -/
namespace Sys2Proof.Machine

/-! ## What an event leaves in the log -/

/-- A record logged now. -/
def record (s : State) (kind : LogKind) (data : List Nat) : LogRecord :=
  { time := s.now, kind := kind, data := data.map half }

/-- The log `after` is `before` with these records entered, in this order, and then perhaps further records of the same
event. -/
def logged (now : Time) (before : Log) (first : List LogRecord) (after : Log) : Prop :=
  ∃ more : List LogRecord, (∀ r ∈ more, r.time = now) ∧ after = (first ++ more).foldl Log.enter before

/-- The log `after` is `before` with records of this event entered, `r` among them. -/
def logs (now : Time) (before : Log) (r : LogRecord) (after : Log) : Prop :=
  ∃ earlier : List LogRecord, (∀ x ∈ earlier, x.time = now) ∧ logged now before (earlier ++ [r]) after

/-- The log `after` is `before` with records of this event entered, none of them of the kind `k`. -/
def logsNo (now : Time) (before : Log) (k : LogKind) (after : Log) : Prop :=
  ∃ more : List LogRecord, (∀ r ∈ more, r.time = now ∧ r.kind ≠ k) ∧ after = more.foldl Log.enter before

/-! ## What an evaluation of the Interlock Unit cannot move -/

/-- A claim with its expiry out of sight. -/
def Claim.noExpiry (c : Claim) : Claim := { c with expiry := none }

/-- The state with everything blanked that an evaluation (R114) and the owners of the targets under it (R118, R119) may move:
the log and ALERT, the idle timer, the unit itself, the mode protocol and the rear freeze, the drive's freezes, the winch's
motion, jobs and freezes with the expiry of its claim, and what the light channels show. -/
def State.still (s : State) : State :=
  { s with
    retention := { s.retention with log := { ring := [], unread := 0, overwritten := false } }
    alert := false
    supply := { s.supply with idle := none }
    interlock := startInterlock .normal
    authority := { s.authority with
      entries := { s.authority.entries with
        winch := { s.authority.entries.winch with claim := s.authority.entries.winch.claim.map Claim.noExpiry } } }
    steering := { s.steering with
      mode := .front, phase := .steady, waiting := none, timer := none, began := 0, modeBefore := .front, freeze := none,
      settled := false }
    drive := { s.drive with fwdFreeze := none, revFreeze := none }
    winch := { startWinch 0 with
      clock := s.winch.clock, q := s.winch.q, hookRun := s.winch.hookRun, stowed := s.winch.stowed }
    lights := { s.lights with
      chans := Eight.tabulate (fun _ => blankChannel), blinker := none, heldDark := false, signalDemand := 0,
      sceneDemand := 0, locatePart := 0 } }

/-! ## The answer to a request (R204) -/

/-- The state `u` that a request leaves, with its answer: the response in the slot, and on the data output, byte for byte as
the transaction clocked, what the slot held when it began. -/
def answered (code : Byte) (st : Status) (data : List Byte) (r : Request) (s u : State) : State :=
  { u with
    assist := { u.assist with
      slot := responseBytes st code data, shifted := shiftOut (clockedBytes r) s.assist.slot, inProgress := [] } }

/-- A request of the catalogue: its code, and the parameter lengths it accepts (section 12.2, R205). -/
structure CatalogueRow where
  code    : Byte
  request : Request
  lengths : List Nat
  deriving DecidableEq, Repr

/-- The row of the catalogue that a command is, when it is a request of it. -/
def catalogueRow : Instr → Option CatalogueRow
  | .nop r => some { code := 0x01, request := r, lengths := [0] }
  | .readStatus r => some { code := 0x02, request := r, lengths := [0] }
  | .readPack r => some { code := 0x03, request := r, lengths := [0] }
  | .readAllotment r => some { code := 0x04, request := r, lengths := [0] }
  | .readCommands r => some { code := 0x05, request := r, lengths := [0] }
  | .claim r => some { code := 0x06, request := r, lengths := [4] }
  | .release r => some { code := 0x07, request := r, lengths := [1] }
  | .winchJob r => some { code := 0x08, request := r, lengths := [6, 8] }
  | .winchCancel r => some { code := 0x09, request := r, lengths := [0] }
  | .winchClear r => some { code := 0x0A, request := r, lengths := [0] }
  | .hazard r => some { code := 0x0B, request := r, lengths := [1] }
  | .ackLocate r => some { code := 0x0C, request := r, lengths := [0] }
  | .limpHome r => some { code := 0x0D, request := r, lengths := [0] }
  | .park r => some { code := 0x0E, request := r, lengths := [0] }
  | .readLog r => some { code := 0x0F, request := r, lengths := [0] }
  | .readSetting r => some { code := 0x10, request := r, lengths := [2] }
  | .writeSetting r => some { code := 0x11, request := r, lengths := writeLengths }
  | .commit r => some { code := 0x12, request := r, lengths := [0] }
  | .restoreDefaults r => some { code := 0x13, request := r, lengths := [0] }
  | .clearCauses r => some { code := 0x14, request := r, lengths := [0] }
  | .restart r => some { code := 0x15, request := r, lengths := [0] }
  | .sampleSet .. | .tripHoldExpiry | .tripLimpExpiry | .limpHomePeriodExpiry | .packAttach .. | .packRemoved ..
  | .retentionLoss _ | .backupMeasurement _ | .srvPgChange _ | .railWaitExpiry | .parkIdleExpiry | .radioFrame ..
  | .holdTimerExpiry | .failsafeTimerExpiry | .telemetryReply _ | .claimExpiry _ | .lockoutNeutralRunExpiry _
  | .switchLockoutExpiry _ | .steerFrame | .transitionTimerExpiry | .escFrame | .winchFrame | .stoppingDwellExpiry
  | .encPulse | .hookDebounceExpiry | .stallNeutralRunExpiry | .jobTimeout | .freeForExpiry | .patternStep _
  | .blinkerStep | .tiltDebounceExpiry | .tiltArmingExpiry | .linkArmingExpiry | .assistWindowExpiry | .commitEnd _
  | .unknownRequest .. | .incompleteTransaction _ | .backupCellFitted | .hookInputChange _ | .tiltInputChange _ => none

/-! ## PARK entry (R66, R106, R141, R150, R179) -/

/-- What PARK entry from `src` leaves of a part that was in the state `s`. -/
def parkedFrom (src : ParkSource) (s t : State) : Prop :=
  t.supply.state = .park ∧ t.supply.rail = .off ∧ t.supply.railWait = none ∧
    t.supply.hookLatch = !s.winch.stowed ∧ t.supply.tiltLatch = !s.lights.tilted ∧
    t.supply.parkModePos = s.radio.driver.modePos ∧ t.supply.parkLightsPos = s.radio.driver.lightsPos ∧
    t.monitor.prev = none ∧ t.monitor.clock = { last := s.now, period := 100 } ∧
    logged s.now s.retention.log [record s .parkEnter [src.code]] t.retention.log ∧
    (∀ f, (t.authority.entries.get f).claim = none ∧
      (t.authority.entries.get f).lockout = (s.authority.entries.get f).lockout) ∧
    t.authority.commands =
      { throttle := s.radio.driver.throttle, steer := s.radio.driver.steer, mode := s.radio.driver.mode,
        winch := s.radio.driver.winch, scene := s.radio.driver.scene } ∧
    t.winch.st = .idle ∧ t.winch.queue = [] ∧ t.steering.phase = .steady ∧ t.steering.waiting = none ∧
    t.steering.mode = s.steering.mode ∧ t.steering.outF = s.steering.outF ∧ t.steering.outR = s.steering.outR ∧
    t.drive.dEff = 0 ∧ t.drive.out = escNeutral s.cfg.drive ∧
    t.retention.identity = s.retention.identity ∧ t.retention.lineCount = s.retention.lineCount ∧ t.now = s.now ∧
    t.pins = s.pins ∧ t.protection = s.protection ∧ t.budget = s.budget ∧ t.radio = s.radio ∧ t.store = s.store ∧
    t.lights.locate = s.lights.locate ∧ t.lights.tilted = s.lights.tilted

/-! ## Gates (R112) -/

/-- A gate closes when it is enabled and one of its terms fails. -/
def gateCloses (k : Conds) (g : Gate) : Prop := g.enabled = true ∧ ∃ x ∈ g.terms, k.get x.cond ≠ x.pol

/-! ## Target states at their owners (R117, R119, R131, R146, R163) -/

/-- The freeze of a target that goes from `old` to `new`: kept where nothing changed, taken at the entry to HELD, `fromOpen` where it
was OPEN and `safe` where it was RELEASED, and discarded in OPEN and RELEASED (R119). -/
def freezeAfter {α : Type} (old new : TargetState) (kept fromOpen safe : Option α) : Option α :=
  if new = old then kept
  else match new with
    | .held => if old = .opened then fromOpen else safe
    | .opened | .released => none

/-- What the targets that the conditions `k` give make of the state `s`, once each owner has taken its own. -/
def targetsTaken (k : Conds) (s t : State) : Prop :=
  let old := s.interlock.targets
  let now' := derive s.cfg.interlock k
  let new := now'.targets
  let enters (x : Target) : Prop := new.get x = .released ∧ old.get x ≠ .released
  let aborts (j : Job) : Prop :=
    enters .winchHaul ∧ j.kind.motion = .hauling ∨ enters .winchPayout ∧ j.kind.motion = .payingOut
  t.interlock = now' ∧ t.still = s.still ∧
    logged s.now s.retention.log
      (allTargets.filterMap (fun x =>
        if enters x then
          some (record s .targetReleased
            [x.code, releasingGate s.cfg.interlock.gates now'.closed x, (old.get x).code])
        else none)) t.retention.log ∧
    t.drive = { s.drive with
      fwdFreeze :=
        freezeAfter old.driveFwd new.driveFwd s.drive.fwdFreeze (some (if 0 < s.drive.gated then s.drive.gated else 0))
          (some 0)
      revFreeze :=
        freezeAfter old.driveRev new.driveRev s.drive.revFreeze (some (if s.drive.gated < 0 then s.drive.gated else 0))
          (some 0) } ∧
    t.steering = { (if new.modeChange = old.modeChange then s else modeChangeTarget old.modeChange new.modeChange s).steering with
      freeze := freezeAfter old.steerRear new.steerRear s.steering.freeze (some s.steering.outR) none } ∧
    t.winch.haulFreeze =
      freezeAfter old.winchHaul new.winchHaul s.winch.haulFreeze
        (some (if s.winch.st = .hauling then .duty s.winch.duty else .stopped)) (some .stopped) ∧
    t.winch.payoutFreeze =
      freezeAfter old.winchPayout new.winchPayout s.winch.payoutFreeze
        (some (if s.winch.st = .payingOut then .duty s.winch.duty else .stopped)) (some .stopped) ∧
    t.winch.st =
      (if enters .winchHaul ∧ s.winch.st = .hauling ∨ enters .winchPayout ∧ s.winch.st = .payingOut then .stopping
       else s.winch.st) ∧
    (∀ r, s.winch.running = some r → ∀ j rest, s.winch.queue = j :: rest → aborts j →
      t.winch.queue = [] ∧ t.winch.running = none ∧
        logs s.now s.retention.log (record s .winchJobEnd [j.tag, JobOutcome.aborted.code, r.moved]) t.retention.log ∧
        (rest ≠ [] → logs s.now s.retention.log (record s .queueFlushed [rest.length]) t.retention.log)) ∧
    ((∀ j, s.runningJob = some j → ¬aborts j) → t.winch.queue = s.winch.queue ∧ t.winch.running = s.winch.running)

/-! ## Settings as they are sent (R208, R212, and the settings table of each chapter) -/

/-- The settings that are one number: identifier, least and greatest value. -/
def numberSettings : List (Nat × Int × Int) :=
  [(0x0100, 1, 250), (0x0102, 0, 50), (0x0103, 5000, 65000), (0x0104, 50, 1000), (0x0105, 3000, 4000), (0x0106, 2900, 3900),
    (0x0107, 2800, 3800), (0x0108, 20, 300), (0x0109, 2600, 3200), (0x010A, 10, 300)] ++
  [(0x0200, 3000, 3700), (0x0201, 0, 300), (0x0202, 0, 500), (0x0203, 5000, 65535), (0x0204, 0, 10000), (0x0205, 0, 10000),
    (0x0206, 0, 10000), (0x0207, 0, 10000), (0x0208, 0, 10000), (0x0209, 1000, 65535)] ++
  [(0x0301, 5, 100), (0x0303, 0, 60), (0x040A, 0, 200), (0x040B, 0, 200), (0x040C, 0, 200), (0x0410, 100, 1000),
    (0x0500, 0, 500), (0x0501, 100, 2000), (0x0502, 100, 600), (0x0503, 500, 5000)] ++
  [(0x0700, 0, 700), (0x0701, 0, 700), (0x0702, -200, 200), (0x0703, -200, 200), (0x0704, 800, 2200), (0x0705, 800, 2200),
    (0x0706, 800, 2200), (0x0707, 800, 2200), (0x070A, 1, 400), (0x070B, 1, 400), (0x070C, 0, 100), (0x070E, 2, 50),
    (0x070F, 500, 5000)] ++
  [(0x0800, 0, 600), (0x0801, -100, 100), (0x0802, 800, 2200), (0x0803, 800, 2200), (0x0806, 0, 1000), (0x0807, 10, 100),
    (0x0901, 1000, 20000), (0x0902, 100, 2000), (0x0903, 10, 100), (0x0904, 1000, 20000), (0x0A13, 0, 1000)]

/-- The settings that are one byte of a list: flags, enumerations, numbers of a short list with a named alternative, the set of
severities. -/
def byteSettings : List (Nat × List Nat) :=
  let flag := [0, 1]
  let channel := [1, 2, 3, 4, 5, 6, 7, 8, 9, 10, 0xFF]
  let index := [0, 1, 2, 3, 4, 5, 6, 7]
  [(0x0300, [1, 2, 3, 4, 0xFF]), (0x0302, flag), (0x0400, channel), (0x0401, channel), (0x0402, channel), (0x0403, channel),
    (0x0404, channel), (0x0405, flag), (0x0406, flag), (0x0407, flag), (0x0408, flag), (0x0409, flag)] ++
  [(0x040D, [0, 1, 2, 3]), (0x040E, [0, 1, 2, 3]), (0x040F, [0, 1, 2, 3]), (0x0411, flag), (0x0708, flag), (0x0709, flag),
    (0x070D, [5, 10, 20]), (0x0804, flag), (0x0805, [10, 20]), (0x0A12, index), (0x0A14, flag), (0x0B00, index)]

/-- The value of a range that is nearest. -/
def nearest (lo hi n : Int) : Int := if n < lo then lo else if hi < n then hi else n

/-- The thresholds, and the endpoints of each output, stand in order once `m` is written to the setting `id` (R26, R143, R154). -/
def orderedWith (w : Settings) (id : Nat) (m : Int) : Prop :=
  let after (k : Nat) (v : Int) : Int := if id = k then m else v
  (0x0105 ≤ id → id ≤ 0x0107 →
      after 0x0107 w.pack.cutoffMv < after 0x0106 w.pack.limpMv ∧
        after 0x0106 w.pack.limpMv < after 0x0105 w.pack.conserveMv) ∧
    (id = 0x0704 ∨ id = 0x0706 → after 0x0704 w.steering.front.endLow < after 0x0706 w.steering.front.endHigh) ∧
    (id = 0x0705 ∨ id = 0x0707 → after 0x0705 w.steering.rear.endLow < after 0x0707 w.steering.rear.endHigh) ∧
    (id = 0x0802 ∨ id = 0x0803 → after 0x0802 w.drive.endLow < after 0x0803 w.drive.endHigh)

/-- An offered value with each of its numbers at the value of its range that is nearest: a number, capacity_mah (R26),
protection_mode (R23), max_payout with the line count (R165), the thresholds and hold_ms of a gesture entry (R90), nominal_ma of a
channel entry and the durations of a pattern entry (R197). -/
def nearestBytes (lineCount id : Nat) (b : List Byte) : List Byte :=
  let half (k : Nat) : Int := num16 (byteAt b k) (byteAt b (k + 1))
  match numberSettings.find? (fun x => x.1 == id) with
  | some (_, lo, hi) =>
    match decodeNum (widthOf lo hi) b with
    | some n => encodeNum (widthOf lo hi) (nearest lo hi n)
    | none => b
  | none =>
    if id = 0x0101 then (if half 0 = 0 then b else le16 (nearest 100 20000 (half 0)).toNat)
    else if id = 0x010B then (if b = [0x3C] ∨ b = [0xC3] then b else [0x3C])
    else if id = 0x0900 then le16 (Nat.max (nearest 100 60000 (half 0)).toNat lineCount)
    else if 0x0412 ≤ id ∧ id ≤ 0x0415 then
      b.take 2 ++
        [0, 1, 2].flatMap (fun k =>
          let t := (b.drop (2 + 4 * k)).take 4
          if k < (byteAt b 1).toNat then
            t.take 2 ++ leSigned16 (nearest (-1000) 1000 (int16 (byteAt t 2) (byteAt t 3)))
          else t) ++
        le16 (nearest 500 5000 (half 14)).toNat ++ b.drop 16
    else if 0x0A00 ≤ id ∧ id ≤ 0x0A07 then b.take 2 ++ le16 (nearest 0 2000 (half 2)).toNat ++ b.drop 4
    else if 0x0A08 ≤ id ∧ id ≤ 0x0A0D then
      b.take 1 ++
        [0, 1, 2, 3, 4, 5, 6, 7].flatMap (fun k =>
          let l := byteAt b (1 + 2 * k)
          let u := byteAt b (2 + 2 * k)
          [l, if k < (byteAt b 0).toNat ∧ u = 0 then 1 else u]) ++
        b.drop 17
    else b

/-- The class left absent in a channel entry is the role's: SCENE for ROCK and BAR, SIGNAL otherwise (R197). -/
def classGiven (id : Nat) (b : List Byte) : List Byte :=
  if 0x0A00 ≤ id ∧ id ≤ 0x0A07 ∧ byteAt b 1 = 0xFF then
    b.take 1 ++ [if (byteAt b 0).toNat = 6 ∨ (byteAt b 0).toNat = 7 then 1 else 0] ++ b.drop 2
  else b

/-- The lists of a gesture, gate or pattern entry are padded with zero entries (R212). -/
def padded (id : Nat) (b : List Byte) : Prop :=
  let zeros (i j : Nat) : Prop := ∀ x ∈ (b.take j).drop i, x = 0
  (0x0412 ≤ id → id ≤ 0x0415 → zeros (2 + 4 * (byteAt b 1).toNat) 14) ∧
    (0x0600 ≤ id → id ≤ 0x0607 → zeros (3 + 2 * (byteAt b 2).toNat) 11) ∧
    (0x0A08 ≤ id → id ≤ 0x0A0D → zeros (1 + 2 * (byteAt b 0).toNat) 17)

/-! ## Invariants -/

/-- At most 48 records, and no more unread ones than records (R198). -/
def LogOk (s : State) : Prop := s.retention.log.ring.length ≤ 48 ∧ s.retention.log.unread ≤ s.retention.log.ring.length

/-- While the part is powered, ALERT is what the unread records and alert_mask make it (R201). -/
def AlertOk (s : State) : Prop := s.powered = true → s.alert = alertOf s.cfg.alertMask s.retention.log

/-- While the part is powered, every gate result and target state is what the unit's copy of the conditions and the gate table
make it (R112, R113). -/
def GatesOk (s : State) : Prop := s.powered = true → s.interlock = derive s.cfg.interlock s.interlock.conds

/-- The value of a condition at its owner (R110); the unit owns the latches itself. -/
def ownerValue (s : State) : Cond → Bool
  | .linkUp => s.radio.link == .up
  | .linkLost => s.radio.link == .lost
  | .assistActive => s.assistActive
  | .throttleNeutral => s.authority.neutral
  | .steerSettled => s.steering.settled
  | .winchMoving => s.winchMoving
  | .hookStowed => s.winch.stowed
  | .tilted => s.lights.tilted
  | .levelReduced => s.protection.effective.reduced
  | .levelLimp => s.protection.effective.isLimp
  | .tripActive => s.tripActive
  | .locateActive => s.lights.locate
  | .latchA => s.interlock.conds.latchA
  | .latchB => s.interlock.conds.latchB

/-- While the part is powered, the unit's copy of every condition is its owner's value (R110). -/
def CopyOk (s : State) : Prop := s.powered = true → ∀ c : Cond, s.interlock.conds.get c = ownerValue s c

/-- At most four jobs are held; while any is, WINCH is under ASSIST with its expiry suspended; a running job is the head of
the queue (R98, R170). -/
def JobsOk (s : State) : Prop :=
  s.winch.queue.length ≤ 4 ∧ (s.winch.running.isSome = true → s.winch.queue ≠ []) ∧
    (s.winch.queue ≠ [] → ∃ c, s.authority.entries.winch.claim = some c ∧ c.expiry = none)

/-- In CUTOFF the winch neither hauls nor pays out and the effective throttle is 0 (R162, R150); outside ACTIVE the winch is
IDLE and the effective throttle is 0 (R49, R179). -/
def MotionOk (s : State) : Prop :=
  (s.protection.effective = .cutoff → s.winch.st.moves = false ∧ s.drive.dEff = 0) ∧
    (s.supply.state ≠ .active → s.winch.st = .idle ∧ s.drive.dEff = 0)

/-- STEER_SETTLED is false throughout a transition; a waiting mode is held in WAITING and none in STEADY (R135, R139). -/
def SteerOk (s : State) : Prop :=
  (s.steering.phase = .transition → s.steering.settled = false) ∧
    (s.steering.phase = .waiting → s.steering.waiting.isSome = true) ∧
    (s.steering.phase = .steady → s.steering.waiting = none)

/-- The five grants of an allotment sum to no more than its headroom (R39). -/
def grantsWithin (a : Allotment) : Prop :=
  a.classes.steer.grant + a.classes.signal.grant + a.classes.drive.grant + a.classes.winch.grant + a.classes.scene.grant
    ≤ a.headroom

/-- A share: a grant of at most the demand (R39), and a ratio of at most 256 (R40). -/
def ClassShare.ok (c : ClassShare) : Prop := c.grant ≤ c.demand ∧ c.ratio ≤ 256

/-- The published allotment keeps to R39, and no ratio exceeds 256. -/
def BudgetOk (s : State) : Prop :=
  grantsWithin s.budget ∧ s.budget.classes.steer.ok ∧ s.budget.classes.signal.ok ∧ s.budget.classes.drive.ok ∧
    s.budget.classes.winch.ok ∧ s.budget.classes.scene.ok

/-- While the part is powered, the line count lies within max_payout (R164). -/
def CountOk (s : State) : Prop := s.powered = true → s.retention.lineCount ≤ s.cfg.winch.maxPayout

/-- The thresholds and the endpoints of the three outputs stand in order (R26, R143, R154). -/
def Settings.ordered (w : Settings) : Prop :=
  (w.pack.cutoffMv < w.pack.limpMv ∧ w.pack.limpMv < w.pack.conserveMv) ∧
    w.steering.front.endLow < w.steering.front.endHigh ∧ w.steering.rear.endLow < w.steering.rear.endHigh ∧
    w.drive.endLow < w.drive.endHigh

/-- The working copy, the image in the store and an image being written keep that order. -/
def OrderOk (s : State) : Prop :=
  s.cfg.ordered ∧ s.store.image.ordered ∧ ∀ image t0, s.store.writing = some (image, t0) → image.ordered

/-- CUTOFF is latched (R17): a step that finds the voltage level at CUTOFF leaves it so, or grants limp-home to an identity that has
not used it, or takes a NEW identity at a pass, or makes a cold start, which keeps no identity. -/
def cutoffLatched (s t : State) : Prop :=
  s.voltageLevel = .cutoff →
    t.voltageLevel = .cutoff ∨
      (∃ i, s.retention.identity = some i ∧ i.limpUsed = false ∧
        t.retention.identity = some { i with
          limpUsed := true, level := .limp, limpPeriod := some (timerAt s.now (s.cfg.pack.limpHomeS * 1000)) }) ∨
      (s.supply.state = .qualify ∧ t.supply.state = .active ∧
        ∃ cells, t.retention.identity = some (newIdentity cells s.cfg.pack.rInit)) ∨
      (t.supply.state = .qualify ∧ t.retention.identity = none)

/-! ## Starts (R51 to R54, R24, R46, R69, R89, R108, R142, R153, R179) -/

/-- The Retention Domain as a cold start clears it: valid, and everything at zero, empty or absent (R51). -/
def clearedRetention : Retention :=
  { valid := true, counter := 0, identity := none, flags := { cold := false, pack := false, restart := false },
    log := { ring := [], unread := 0, overwritten := false }, lineCount := 0 }

/-- What a start from `cause` leaves of a part that was in the state `s`: QUALIFY with every volatile block at its start values, the
working copy loaded, START logged first, the flag of the cause added, and the START response with its cause in the slot (R204). -/
def startedBy (cause : StartCause) (s t : State) : Prop :=
  t.supply = startSupply (cause == .restartReq) s.now ∧
    t.cfg =
      (if s.store.checkOk = true then guarded s.retention.lineCount s.store.image
       else coverCount s.retention.lineCount factorySettings) ∧
    t.store = { s.store with working := t.cfg, commit := .idle, writing := none } ∧
    logged s.now s.retention.log [record s .start [cause.code]] t.retention.log ∧
    t.retention = { s.retention with log := t.retention.log, flags := s.retention.flags.mark cause } ∧
    t.monitor = startMonitor t.cfg s.retention.identity s.now ∧ t.protection = startProtection s.retention.identity ∧
    t.budget = startAllotment s.retention.identity s.now ∧ t.radio = startRadio t.cfg ∧ t.authority = startAuthority t.cfg ∧
    t.steering = { startSteering t.cfg s.now with freeze := t.steering.freeze } ∧
    t.drive = { startDrive t.cfg s.now with fwdFreeze := t.drive.fwdFreeze, revFreeze := t.drive.revFreeze } ∧
    t.winch = { startWinch s.now with haulFreeze := t.winch.haulFreeze, payoutFreeze := t.winch.payoutFreeze } ∧
    t.lights.locate = false ∧ t.lights.tilted = false ∧ t.lights.hazardAssist = false ∧ t.lights.hazardGesture = false ∧
    t.interlock = derive t.cfg.interlock (startConds (startLevel s.retention.identity)) ∧
    t.alert = alertOf t.cfg.alertMask t.retention.log ∧ t.pins = s.pins ∧ t.pending = s.pending ∧
    t.assist.slot =
      [0x00, 0x00, 0x01, match cause with | .coldStart => 0x00 | .packStart => 0x01 | .restartReq => 0x02] ∧
    t.assist.window = none

/-! ## Levels on a set (R14 to R20, R23) -/

/-- A falling timer after a set in protection mode ACTIVE, below its threshold or not (R14). -/
def fallingAfter (now : Time) (dwell : Nat) (below : Bool) (x : Falling) : Falling :=
  match below, x with
  | false, _ => .stopped
  | true, .stopped => .running now
  | true, .running st => if dwell ≤ elapsed now st then .complete else .running st
  | true, .complete => .complete

/-- The falling timer completes on a set below its threshold (R14). -/
def completes (now : Time) (dwell : Nat) (below : Bool) (x : Falling) : Bool :=
  match below, x with
  | true, .running st => decide (dwell ≤ elapsed now st)
  | _, _ => false

/-- A set with readings `vMeas`, completed in ACTIVE or PARK on the identity `i`, leaves the level timers, the voltage level of the
identity `j`, the energy level, the effective level and the LEVEL_CHANGE record that R14 to R20 and R23 give. -/
def levelsOnSet (vMeas : Nat) (i j : Identity) (s t : State) : Prop :=
  let w := s.cfg.pack
  let p := s.protection
  let v := t.monitor.latest.vCell
  let limpHome := i.limpPeriod.isSome
  -- R23: a mode that takes effect on this set
  let bench := w.protectionMode == codeBench
  let changed := bench != p.bench
  let falling (x : Falling) : Falling := if changed then .stopped else x
  let rising := if changed then none else p.rising
  let level0 : Level :=
    if changed && bench && (i.level == .conserve || (i.level == .limp && !limpHome)) then .normal else i.level
  -- R14, and R22 for the cutoff timer
  let drop (x : Falling) (below : Bool) (dwell : Nat) (target : Level) : Level :=
    if !bench && completes s.now dwell below (falling x) then target else .normal
  let after (x : Falling) (below : Bool) (dwell : Nat) : Falling :=
    if bench then falling x else fallingAfter s.now dwell below (falling x)
  let level1 :=
    Level.worst (Level.worst level0 (drop p.conserveT (v < w.conserveMv) 3000 .conserve))
      (Level.worst (drop p.limpT (v < w.limpMv) 2000 .limp)
        (if limpHome then .normal else drop p.cutoffT (v < w.cutoffMv) 1000 .cutoff))
  -- R15
  let above : Bool :=
    !limpHome && ((level1 == .conserve && decide (w.conserveMv + w.hystMv ≤ v)) ||
      (level1 == .limp && decide (w.limpMv + w.hystMv ≤ v)))
  let rises : Bool := !bench && above && (match rising with | some t0 => decide (5000 ≤ elapsed s.now t0) | none => false)
  let level2 : Level := if rises then (if level1 = .limp then .conserve else .normal) else level1
  -- R16
  let low : Bool := vMeas / i.cells < w.absFloorMv
  let floor : Bool := low && (match p.floorT with | some t0 => decide (100 ≤ elapsed s.now t0) | none => false)
  j.level = (if floor then .cutoff else level2) ∧
    j.limpPeriod = (if floor then none else i.limpPeriod) ∧
    t.protection.bench = bench ∧
    t.protection.conserveT = after p.conserveT (v < w.conserveMv) 3000 ∧
    t.protection.limpT = after p.limpT (v < w.limpMv) 2000 ∧
    t.protection.cutoffT = (if limpHome then falling p.cutoffT else after p.cutoffT (v < w.cutoffMv) 1000) ∧
    t.protection.rising =
      (if floor then none else if bench then rising else if rises || !above then none else some (rising.getD s.now)) ∧
    t.protection.floorT = (if floor then some s.now else if low then some (p.floorT.getD s.now) else none) ∧
    -- R18
    t.protection.energy =
      (if bench then .normal
       else match t.monitor.remainingPct with
         | none => .normal
         | some pct => if pct = 0 then .limp else if pct ≤ w.reservePct then .conserve else .normal) ∧
    -- R19
    t.protection.effective = Level.worst (Level.worst j.level t.protection.energy) (tripLevel j.tripLimp.isSome) ∧
    (t.protection.effective = p.effective → logsNo s.now s.retention.log .levelChange t.retention.log) ∧
    (t.protection.effective ≠ p.effective →
      let new := t.protection.effective
      let cause : LevelCause :=
        if new.worse p.effective then
          (if j.level = new then (if floor then .floor else .voltage) else if t.protection.energy = new then .energy else .trip)
        else if i.level.worse new then .voltage
        else if p.energy.worse new then .energy
        else .trip
      logs s.now s.retention.log (record s .levelChange [p.effective.code, new.code, cause.code]) t.retention.log)

/-! ## The trip run on a set (R11 to R13) -/

/-- A set of this pack current, completed in ACTIVE or PARK on the identity `i`, opens, continues or closes the trip run; a trip is
found on a set at or above trip_ma at least trip_ms after the run began, which begins a new run, and on no other set do the hold,
the history and trip-LIMP of the identity `j` move or TRIP stand in the log. -/
def tripOnSet (iMeas : Nat) (i j : Identity) (s t : State) : Prop :=
  let found : Bool :=
    match s.monitor.tripRun with
    | some began => decide (s.cfg.pack.tripMa ≤ iMeas) && decide (s.cfg.pack.tripMs ≤ elapsed s.now began)
    | none => false
  t.monitor.tripRun =
      (if iMeas < s.cfg.pack.tripMa then none else if found then some s.now else some (s.monitor.tripRun.getD s.now)) ∧
    (found = true → t.monitor.tripHold = some (timerAt s.now 1000)) ∧
    (found = false →
      t.monitor.tripHold = s.monitor.tripHold ∧ j.trips = i.trips ∧ j.tripLimp = i.tripLimp ∧
        logsNo s.now s.retention.log .trip t.retention.log)

/-! ## A pass over the classes (R36, R37) -/

/-- One pass over the classes in their order: each is given the lesser of what it may take and what remains. -/
def passInOrder (remaining : Nat) : List Nat → List Nat
  | [] => []
  | may :: rest => Nat.min may remaining :: passInOrder (remaining - Nat.min may remaining) rest

/-! ## A valid frame at the Authority Table (R91, R92, R100 to R104) -/

/-- The bytes are a frame with its marker, its length and its check byte (R71). -/
def wholeFrame (bytes : List Byte) : Prop :=
  byteAt bytes 0 = 0xA7 ∧ bytes.length = 19 ∧ xorAll ((bytes.drop 1).take 17) = byteAt bytes 18

/-- The link state after a valid frame (R73). -/
def linkOn (fr : Frame) (s : State) : LinkState :=
  if fr.rxFailsafe = true then .lost
  else match s.radio.link with
    | .noLink | .lost => .rearm
    | .rearm =>
      if (functionValue s.cfg.radio fr .throttle).natAbs ≤ s.cfg.radio.bands.throttle then .up else .rearm
    | .up | .holding => .up

/-- The driver's value of a function on this handing-over lies within its neutral band. -/
def inBand (f : Fn) (t : State) : Bool := decide ((driverValue t f).natAbs ≤ bandOf t f)

/-- The driver takes the function over (R101, R102): the stick beyond takeover_delta from the reference, or a change of the switch
position, or a position other than the one the reference came from. -/
def takesOver (f : Fn) (c : Claim) (s t : State) : Prop :=
  match f with
  | .throttle | .steer | .winch => s.cfg.authority.takeoverDelta < (driverValue t f - c.reference).natAbs
  | .steerMode => t.radio.driver.modePos ≠ s.radio.driver.modePos ∨ c.refPos ≠ some t.radio.driver.modePos
  | .lights => t.radio.driver.lightsPos ≠ s.radio.driver.lightsPos ∨ c.refPos ≠ some t.radio.driver.lightsPos

/-- What a frame that leaves the link in `new` makes of the entry of a function. -/
def entryOnFrame (new : LinkState) (f : Fn) (s t : State) : Prop :=
  let e := s.authority.entries.get f
  let run (old : Option Timer) : Option Timer :=
    if f.proportional = true ∧ inBand f t = true then some (old.getD (timerAt s.now 200)) else none
  (∀ c, e.claim = some c → new = .up → takesOver f c s t →
      (t.authority.entries.get f).claim = none ∧
        (t.authority.entries.get f).lockout = some
          { began := s.now
            ends := if f.proportional = true then none else some (timerAt s.now s.cfg.authority.lockoutMs)
            run := run none } ∧
        logs s.now s.retention.log (record s .claimEnd [fnCode f, c.kind.code, 2]) t.retention.log) ∧
    (∀ c, e.claim = some c → new ≠ .up → f = .throttle ∨ f = .winch →
      (t.authority.entries.get f).claim = none ∧
        logs s.now s.retention.log (record s .claimEnd [fnCode f, c.kind.code, 3]) t.retention.log) ∧
    (∀ l, e.lockout = some l → e.claim = none →
      (t.authority.entries.get f).lockout = some (if f.proportional = true then { l with run := run l.run } else l)) ∧
    (e.lockout = none → (∀ c, e.claim = some c → new = .up → ¬takesOver f c s t) → (t.authority.entries.get f).lockout = none) ∧
    (∀ c, e.claim = some c → (new = .up → ¬takesOver f c s t) → (new ≠ .up → f ≠ .throttle ∧ f ≠ .winch) →
      (∀ i, (s.cfg.radio.gestures.get i).enabled = false) →
      (t.authority.entries.get f).claim.map Claim.noExpiry = some c.noExpiry)

/-! ## Waking (R65, R67, R68) -/

/-- The THROTTLE, STEER or WINCH driver value lies outside the band in force (R65, R67). -/
def sticksOut (t : State) : Prop :=
  t.radio.bands.throttle < t.radio.driver.throttle.natAbs ∨ t.radio.bands.steer < t.radio.driver.steer.natAbs ∨
    t.radio.bands.winch < t.radio.driver.winch.natAbs

/-- The Supply Controller's part of a wake by this source, from the parked `s` to `t` (R68). -/
def wokenBy (src : WakeSource) (s t : State) : Prop :=
  t.supply.state = .active ∧ t.now = s.now ∧
    (s.pins.srvPg = true → t.supply.rail = .good ∧ t.supply.railWait = none) ∧
    (s.pins.srvPg = false → t.supply.rail = .wait ∧ t.supply.railWait = some (timerAt s.now 50)) ∧
    t.supply.idle =
      (if s.cfg.supply.parkIdleMin = 0 then none else some (timerAt s.now (s.cfg.supply.parkIdleMin * 60000))) ∧
    t.monitor = { s.monitor with clock := { last := s.now, period := 2 }, prev := none } ∧
    logs s.now s.retention.log (record s .parkWake [src.code]) t.retention.log

/-! ## The mode protocol (R135 to R140) -/

/-- No gate and no latch reads what a change of the STEER_MODE command can move by itself: the evaluations that it brings about leave
every target as it is. -/
def modesUnread (s : State) : Prop :=
  let w := s.cfg.interlock
  let read (x : GateTerm) : Prop := x.cond = .steerSettled ∨ x.cond = .throttleNeutral ∨ x.cond = .winchMoving
  (∀ g ∈ w.gates.toList, ∀ x ∈ g.terms, ¬read x ∧ x.cond ≠ .latchA ∧ x.cond ≠ .latchB) ∧
    ∀ l, l = w.latchA ∨ l = w.latchB → ∀ x, l.set = some x ∨ l.reset = some x → ¬read x

/-! ## Gestures (R84 to R88) -/

/-- The entry is judged on the frame (R84). -/
def gestureJudged (new : LinkState) (e : GestureEntry) (s : State) : Prop :=
  (s.supply.state = .active ∨ s.supply.state = .park) ∧ (new = .up ∨ new = .rearm) ∧ e.enabled = true ∧ e.terms ≠ []

/-- A gesture that fires in ACTIVE: GESTURE is the first record, and its action reaches its owner (R88). -/
def gestureActs (i : Fin 4) (a : GestureAction) (u t : State) : Prop :=
  let r := record u .gesture [i.val, a.code]
  let only : Prop := t = enterLog .gesture [i.val, a.code] u
  logged u.now u.retention.log [r] t.retention.log ∧
    match a with
    | .limpHome =>
      (∀ k, u.retention.identity = some k → k.level = .cutoff → k.limpUsed = false →
          t.retention.identity = some { k with
            limpUsed := true, level := .limp, limpPeriod := some (timerAt u.now (u.cfg.pack.limpHomeS * 1000)) } ∧
            (u.protection.energy ≠ .cutoff → t.protection.effective = .limp) ∧
            logged u.now u.retention.log [r, record u .limpHomeGranted [1, u.cfg.pack.limpHomeS]] t.retention.log) ∧
        ((∀ k, u.retention.identity = some k → k.level ≠ .cutoff ∨ k.limpUsed = true) → only)
    | .ackLocate =>
      (u.lights.locate = true →
          t.lights.locate = false ∧ t.interlock.conds.locateActive = false ∧
            logged u.now u.retention.log [r, record u .locateAck [1]] t.retention.log ∧
            t.still = { u with lights := { u.lights with locate := false } }.still) ∧
        (u.lights.locate = false → only)
    | .winchFree =>
      (u.winch.queue ≠ [] ∨ (u.winch.st ≠ .idle ∧ u.winch.st ≠ .free) ∨
            (u.winch.st = .idle ∧ u.cfg.winch.maxPayout ≤ u.retention.lineCount) → only) ∧
        (u.winch.queue = [] → u.winch.st = .idle → u.retention.lineCount < u.cfg.winch.maxPayout →
          t.winch.st = .free ∧ t.winch.lastDir = .payout ∧ t.still = u.still) ∧
        (u.winch.queue = [] → u.winch.st = .free → t.winch.st = .idle ∧ t.still = u.still)
    | .winchClear =>
      (u.winch.st = .stalled → t.winch.st = .idle ∧ t.winch.neutralRun = none ∧ t.winch.queue = u.winch.queue ∧
          t.still = u.still) ∧
        (u.winch.st ≠ .stalled → only)
    | .park => parkedFrom .gesture (enterLog .gesture [i.val, a.code] u) t
    | .modeNext =>
      let m : Mode :=
        match u.radio.driver.mode with
        | .front => .counter
        | .counter => .crab
        | .crab => .rear
        | .rear => .front
      t.radio = { u.radio with override := some m, driver := { u.radio.driver with mode := m } } ∧
        (u.authority.entries.steerMode.claim = none → t.authority.commands.mode = m)
    | .hazardToggle =>
      t.lights.hazardGesture = !u.lights.hazardGesture ∧
        t.still = { u with lights := { u.lights with hazardGesture := !u.lights.hazardGesture } }.still

/-! ## The winch on a set (R167, R173) -/

/-- The stall-clear neutral run after a judgement of it (R168): open while the winch is STALLED with WINCH under DRIVER and the WINCH
command within band_winch, for 300 ms from its opening; closed otherwise. -/
def neutralRunJudged (s t : State) : Prop :=
  t.winch.neutralRun =
    if t.winch.st = .stalled ∧ t.authority.entries.winch.claim = none ∧
        t.authority.commands.winch.natAbs ≤ t.radio.bands.winch then
      some (s.winch.neutralRun.getD (timerAt s.now 300))
    else none

/-- What a set completed in ACTIVE makes of the winch, from `s` to `u`: the tension run of the running job first, then the stall
run. -/
def winchOnSet (s u : State) : Prop :=
  let mA := s.monitor.latest.iWinch
  let tight (j : Job) : Prop := j.kind = .haulToTension ∧ s.winch.st = .hauling ∧ j.amount.getD 0 ≤ mA
  let arrives (r : JobRun) (j : Job) : Prop := tight j ∧ ∃ t0, r.tension = some t0 ∧ 200 ≤ elapsed s.now t0
  let pulls : Prop := s.winch.st = .hauling ∧ 100 ≤ s.winch.eff ∧ s.cfg.winch.stallMa ≤ mA
  let stalls : Prop := pulls ∧ ∃ t0, s.winch.stallRun = some t0 ∧ s.cfg.winch.stallMs ≤ elapsed s.now t0
  let goesOn : Prop := ∀ r, s.winch.running = some r → ∀ j rest, s.winch.queue = j :: rest → ¬arrives r j
  let stall := record s .winchStall [mA, s.retention.lineCount]
  u.still = s.still ∧
    (∀ r, s.winch.running = some r → ∀ j rest, s.winch.queue = j :: rest → arrives r j →
      u.winch.st = .stopping ∧ u.winch.queue = rest ∧ u.winch.running = none ∧ u.winch.stallRun = none ∧
        logged s.now s.retention.log [record s .winchJobEnd [j.tag, JobOutcome.done.code, r.moved]] u.retention.log) ∧
    (goesOn → stalls →
      u.winch.st = .stalled ∧ u.winch.duty = 0 ∧ u.winch.eff = 0 ∧ u.winch.stallRun = none ∧ neutralRunJudged s u ∧
        logged s.now s.retention.log [stall] u.retention.log ∧
        (s.winch.running = none → u.winch.queue = s.winch.queue) ∧
        ∀ r, s.winch.running = some r → ∀ j rest, s.winch.queue = j :: rest →
          u.winch.queue = [] ∧ u.winch.running = none ∧
            logged s.now s.retention.log
              ([stall, record s .winchJobEnd [j.tag, JobOutcome.stalled.code, r.moved]] ++
                (if rest = [] then [] else [record s .queueFlushed [rest.length]])) u.retention.log) ∧
    (goesOn → ¬stalls →
      u.retention.log = s.retention.log ∧
        u.winch = { s.winch with
          stallRun := if pulls then some (s.winch.stallRun.getD s.now) else none
          running := s.winch.running.map (fun r =>
            { r with tension :=
                match s.winch.queue with
                | j :: _ => if tight j then some (r.tension.getD s.now) else none
                | [] => none }) })

/-! ## Lights at an event (R184 to R192) -/

/-- The first five rows of R190's table, for a channel with this source. -/
def darkByTable (s : State) (i : Fin 8) (src : Option Source) : Prop :=
  let e := s.cfg.lights.channels.get i
  let located : Prop := e.cls = .signal ∧ src = some .locate
  let target := s.interlock.targets.sceneLights
  (s.supply.state = .retain ∨ s.supply.state = .qualify) ∨ (s.supply.state = .park ∧ ¬located) ∨
    (s.protection.effective = .cutoff ∧ ¬located) ∨
    (e.cls = .scene ∧ (s.protection.effective = .conserve ∨ s.protection.effective = .limp)) ∨
    (e.cls = .scene ∧ (target = .released ∨ target = .held ∧ s.lights.heldDark = true))

/-- The published ratio of a channel's class. -/
def publishedRatio (s : State) (i : Fin 8) : Nat :=
  match (s.cfg.lights.channels.get i).cls with
  | .signal => s.budget.classes.signal.ratio
  | .scene => s.budget.classes.scene.ratio

/-- The output level of a step's level on a channel that no rule of the first five makes dark (R189, R190). -/
def emitted (s : State) (i : Fin 8) (level : Nat) : Nat :=
  if (s.cfg.lights.channels.get i).cls = .scene ∧ publishedRatio s i < 64 then 0
  else level * (s.cfg.lights.channels.get i).brightness / 255 * publishedRatio s i / 256

/-- The level of the step that a channel shows (R189, R191). -/
def presentLevel (s : State) (c : ChannelState) : Nat :=
  match c.freeze, s.lights.blinker with
  | some .dark, _ => 0
  | some (.shown _ _ p k), _ => (p.stepAt k).level
  | none, some b =>
    if c.blinks = true then (s.cfg.lights.p2.stepAt b.step).level
    else ((s.cfg.lights.patternOf c.pattern).stepAt c.step).level
  | none, none => if c.blinks = true then 0 else ((s.cfg.lights.patternOf c.pattern).stepAt c.step).level

/-- What a channel makes of a change of any input, from `s` to `t`: its source, its run, its darkness and its level. -/
def channelTakes (s t : State) (i : Fin 8) : Prop :=
  let e := s.cfg.lights.channels.get i
  let c := s.lights.chans.get i
  let c' := t.lights.chans.get i
  let src := channelSource s i
  let target := s.interlock.targets.sceneLights
  let free : Prop := e.cls = .signal ∨ target = .opened
  let joins : Prop := src.blinks = true ∧ ¬(c.blinks = true ∧ c.freeze = none)
  let restarts : Prop :=
    src.blinks = false ∧ ¬(c.source = some src ∧ c.pattern = sourcePattern s src i ∧ c.freeze = none)
  let dark := darkByTable s i c'.source
  let shed : Prop := e.cls = .scene ∧ c.ratio < 64
  -- R184, R185
  (free → c'.source = some src ∧ c'.freeze = none ∧ (joins → c'.timer = none) ∧
      (restarts →
        c'.pattern = sourcePattern s src i ∧ c'.step = 0 ∧
          c'.timer = some (timerAt s.now (((s.cfg.lights.patternOf c'.pattern).stepAt 0).units * 10))) ∧
      (¬joins → ¬restarts → c'.pattern = c.pattern ∧ c'.step = c.step ∧ c'.timer = c.timer)) ∧
    -- R191
    (¬free → target = .released → c'.source = none ∧ c'.freeze = none ∧ c'.timer = none) ∧
    (¬free → target = .held → c.freeze ≠ none →
      c'.source = some src ∧ c'.freeze = c.freeze ∧ c'.pattern = c.pattern ∧ c'.step = c.step ∧ c'.timer = c.timer) ∧
    -- R190
    (c'.dark = true ↔ dark) ∧ (dark → c'.level = 0) ∧
    (¬dark → free ∧ (joins ∨ restarts) ∨ c.dark = true ∧ ¬shed →
      c'.ratio = publishedRatio s i ∧ c'.level = emitted s i (presentLevel t c')) ∧
    (¬dark → c.dark = true → shed → free ∧ ¬joins ∧ ¬restarts ∨ ¬free ∧ c.freeze ≠ none →
      c'.ratio = c.ratio ∧ c'.level = 0) ∧
    (¬dark → c.dark = false → free ∧ ¬joins ∧ ¬restarts ∨ ¬free ∧ c.freeze ≠ none →
      c'.ratio = c.ratio ∧ c'.level = c.level)

/-- The contribution of a channel to its class's demand (R192). -/
def contributes (t : State) (i : Fin 8) (n : Nat) : Prop :=
  let e := t.cfg.lights.channels.get i
  let c := t.lights.chans.get i
  let p : Pattern :=
    match c.freeze with
    | some .dark => { steps := [{ level := 0, units := 10 }], loop := true }
    | some (.shown _ _ p _) => p
    | none => if c.blinks = true then t.cfg.lights.p2 else t.cfg.lights.patternOf c.pattern
  let isOn : Prop := (∃ st ∈ p.steps, st.level ≠ 0) ∧ e.brightness ≠ 0 ∧ ¬darkByTable t i c.source
  (isOn → n = e.nominalMa * e.brightness / 255) ∧ (¬isOn → n = 0)

/-- The controller takes a change of any of its inputs, from `s` to `t`. -/
def lightsTake (s t : State) : Prop :=
  (hazardActive s = true ∨ s.lights.turnL = true ∨ s.lights.turnR = true →
      t.lights.blinker = some (s.lights.blinker.getD
        { step := 0, timer := timerAt s.now ((s.cfg.lights.p2.stepAt 0).units * 10) })) ∧
    (hazardActive s = false → s.lights.turnL = false → s.lights.turnR = false → t.lights.blinker = none) ∧
    (∀ i, channelTakes s t i) ∧
    (∃ n : Eight Nat, (∀ i, contributes t i (n.get i)) ∧
      let sum (p : ChannelEntry → Bool) : Nat :=
        ([0, 1, 2, 3, 4, 5, 6, 7].map (fun i => if p (t.cfg.lights.channels.get i) then n.get i else 0)).sum
      t.lights.signalDemand = sum (fun e => e.cls == .signal) ∧ t.lights.sceneDemand = sum (fun e => e.cls == .scene) ∧
        t.lights.locatePart = sum (fun e => e.cls == .signal && e.locate)) ∧
    { t with lights := { t.lights with
        chans := s.lights.chans, blinker := s.lights.blinker, signalDemand := s.lights.signalDemand,
        sceneDemand := s.lights.sceneDemand, locatePart := s.lights.locatePart } } = s

/-- A SCENE-class channel when SCENE_LIGHTS has gone from `old` to the state that stands in `s` (R191). -/
def sceneChannelTakes (old : TargetState) (s t : State) (i : Fin 8) : Prop :=
  let c := s.lights.chans.get i
  let c' := t.lights.chans.get i
  let src := channelSource s i
  match s.interlock.targets.sceneLights with
  | .released => c'.source = none ∧ c'.freeze = none ∧ c'.timer = none ∧ c'.dark = true ∧ c'.level = 0
  | .held =>
    (old = .released → c'.freeze = some .dark ∧ c'.timer = none ∧ c'.dark = true ∧ c'.level = 0) ∧
      (old = .opened → ∀ src0, c.source = some src0 →
        (src0.blinks = false →
            c'.freeze = some (.shown src0 c.pattern (s.cfg.lights.patternOf c.pattern) c.step) ∧ c'.timer = c.timer) ∧
          (src0.blinks = true → ∀ b, s.lights.blinker = some b →
            c'.freeze = some (.shown src0 2 s.cfg.lights.p2 b.step) ∧ c'.timer = some b.timer))
  | .opened =>
    c'.source = some src ∧ c'.freeze = none ∧
      (old = .held ∨ c.source = none → (src.blinks = true → c'.timer = none) ∧
        (¬darkByTable t i (some src) → c'.level = emitted s i (presentLevel t c'))) ∧
      (c.source = none → src.blinks = false → c'.pattern = sourcePattern s src i ∧ (old = .released → c'.step = 0)) ∧
      (old = .held → src.blinks = false →
        c'.pattern = sourcePattern s src i ∧
          c'.timer = some (timerAt s.now (((s.cfg.lights.patternOf c'.pattern).stepAt c'.step).units * 10)) ∧
          (∀ k, c.freeze = some (.shown src (sourcePattern s src i) (s.cfg.lights.patternOf (sourcePattern s src i)) k) →
            c'.step = k) ∧
          ((∀ k, c.freeze ≠ some (.shown src (sourcePattern s src i) (s.cfg.lights.patternOf (sourcePattern s src i)) k)) →
            c'.step = 0))

/-! ## Frames that several events share -/

/-- What every set completed in QUALIFY that does not pass leaves as it was, beside what the Pack Monitor, the Budget Unit and the
Supply Controller do with it (R3, R27). -/
def qualifying (s t : State) : Prop :=
  t.budget.supply = .qualify ∧ t.budget.time = s.now ∧ t.monitor.latest.time = s.now ∧ t.supply.state = .qualify ∧
    t.radio = s.radio ∧ t.authority = s.authority ∧ t.interlock = s.interlock ∧ t.steering = s.steering ∧
    t.drive = s.drive ∧ t.winch = s.winch ∧ t.lights = s.lights ∧ t.assist = s.assist ∧ t.store = s.store ∧
    t.protection = s.protection ∧ t.pins = s.pins

/-- What the expiry of a silence timer does to the claims (R104, R176) and leaves of the rest. -/
def silencedBy (s t : State) : Prop :=
  t.authority.entries.throttle.claim = none ∧ t.authority.entries.winch.claim = none ∧ (JobsOk s → t.winch.queue = []) ∧
    t.authority.entries.steer.claim = s.authority.entries.steer.claim ∧
    t.authority.entries.steerMode = s.authority.entries.steerMode ∧
    t.authority.entries.lights = s.authority.entries.lights ∧ t.supply.state = s.supply.state ∧ t.monitor = s.monitor ∧
    t.protection = s.protection ∧ t.budget = s.budget ∧ t.store = s.store ∧ t.assist = s.assist ∧ t.pins = s.pins ∧
    t.now = s.now ∧ t.retention.identity = s.retention.identity ∧ t.retention.lineCount = s.retention.lineCount ∧
    t.steering.outF = s.steering.outF ∧ t.steering.outR = s.steering.outR ∧ t.drive.dEff = s.drive.dEff

/-- The command `c`, which changes `s` to `u` by itself, arms the locate latch with this cause when it is clear (R194). -/
def armsLocate (cause : Nat) (c : Instr) (s u : State) : Prop :=
  (s.lights.locate = true → exec c s = .next u) ∧
    (s.lights.locate = false →
      ∃ t, exec c s = .next t ∧ t.interlock.conds.locateActive = true ∧
        t.still = { u with lights := { u.lights with locate := true } }.still ∧
        logged s.now s.retention.log [record s .locateArmed [cause]] t.retention.log)

end Sys2Proof.Machine
end

