-- ==== Sys2Proof/Certificates/Slice0/Obligations.lean ====
section
/-! DEFINITION. The statements for the provers: what the rules of spec/ say that each command does, and what every step keeps. -/
open Sys2Proof Sys2Proof.Machine

/-! ## The queue and the passing of time -/

/-- A step takes the command at the front of the queue and executes it with the rest of the queue. -/
def Obligations.StepRunsTheFrontCommand : Prop :=
  ∀ (c : Instr) (s : State), step { s with pending := c :: s.pending } = exec c s

/-- With no command waiting, a step is one millisecond of the run-time counter and nothing else; the counter stands still once
the contents are lost in RETAIN (R55, R56). That a step with an empty queue is a millisecond is the model's choice (log
entry 2). -/
def Obligations.IdleStepIsOneMillisecond : Prop :=
  ∀ s : State, s.pending = [] →
    ∃ t, step s = .next t ∧
      t.now = (if s.powered = true ∨ s.retention.valid = true then s.now + 1 else s.now) ∧
      { t with retention := { t.retention with counter := s.now } } = s

/-- Every command of the table has a next state in every state, none faults and none is refused; and a command leaves the queue
of waiting commands as it found it. -/
def Obligations.EveryCommandCompletes : Prop :=
  ∀ (c : Instr) (s : State), ∃ t, exec c s = .next t ∧ t.pending = s.pending

/-! ## After reset -/

/-- What a cold start leaves, as the "State at each start" rules of the chapters give it. That reset is a cold start at factory
settings is the model's choice (log entry 1). -/
def Obligations.ResetIsAColdStart : Prop :=
  let s := State.reset
  (s.supply.state = .qualify ∧ s.supply.rail = .off ∧ s.supply.window = none ∧ s.supply.backupReady = false ∧
      s.supply.idle = none) ∧
    (s.retention.valid = true ∧ s.now = 0 ∧ s.retention.identity = none ∧ s.retention.lineCount = 0 ∧
      s.retention.flags = { cold := true, pack := false, restart := false } ∧
      s.retention.log = ({ ring := [], unread := 0, overwritten := false } : Log).enter (record s .start [0])) ∧
    (s.monitor.prev = none ∧ s.monitor.servo = [] ∧ s.monitor.tripHold = none ∧ s.protection.effective = .normal ∧
      s.protection.energy = .normal) ∧
    (s.radio.link = .noLink ∧ s.radio.last = none ∧ s.radio.override = none ∧ s.radio.rotation = .pack ∧
      s.radio.driver = { throttle := 0, steer := 0, winch := 0, mode := .counter, modePos := .mid, scene := 1,
                         lightsPos := .mid }) ∧
    (s.authority.commands = { throttle := 0, steer := 0, mode := .counter, winch := 0, scene := 1 } ∧
      s.authority.neutral = true ∧ ∀ f, s.authority.entries.get f = freeEntry) ∧
    (s.steering.mode = .front ∧ s.steering.phase = .steady ∧ s.steering.outF = 1500 ∧ s.steering.outR = 1500 ∧
      s.steering.settled = true) ∧
    (s.drive.dEff = 0 ∧ s.drive.out = 1500 ∧ s.drive.pulse = none ∧ s.drive.demand = 0) ∧
    (s.winch.st = .idle ∧ s.winch.queue = [] ∧ s.winch.lastDir = .payout ∧ s.winch.stowed = false) ∧
    (s.lights.locate = false ∧ s.lights.tilted = false ∧ s.lights.hazardAssist = false ∧
      ∀ i, (s.lights.chans.get i).dark = true ∧ (s.lights.chans.get i).level = 0) ∧
    (s.assist.slot = [0x00, 0x00, 0x01, 0x00] ∧ s.assist.window = none ∧ s.store.commit = .idle)

/-- Every invariant below holds right after reset. That reset is a cold start is log entry 1, and that the working copy and the
store then hold the factory settings log entry 8 (both DESIGN CHOICE): AlertOk, CountOk, OrderOk, JobsOk and MotionOk of reset rest on
them. -/
def Obligations.InvariantsHoldAtReset : Prop :=
  LogOk State.reset ∧ AlertOk State.reset ∧ GatesOk State.reset ∧ CopyOk State.reset ∧ JobsOk State.reset ∧
    MotionOk State.reset ∧ SteerOk State.reset ∧ BudgetOk State.reset ∧ CountOk State.reset ∧ OrderOk State.reset

/-! ## Invariants that every step keeps -/

/-- The log holds at most 48 records and never counts more unread than it holds (R198); while the part is powered ALERT is
asserted exactly while an unread record's severity is in alert_mask (R201). -/
def Obligations.LogAndAlertAgree : Prop :=
  ∀ s t : State, LogOk s → AlertOk s → step s = .next t → LogOk t ∧ AlertOk t

/-- After every step, the gate results and target states are those that the copy of the conditions and the gate table give
(R112 to R114, R125, R126). -/
def Obligations.GatesFollowConditions : Prop :=
  ∀ s t : State, GatesOk s → step s = .next t → GatesOk t

/-- After every step, the Interlock Unit's copy of each condition is its owner's value (R110, R114, R115). -/
def Obligations.ConditionCopyFollowsOwners : Prop :=
  ∀ s t : State, CopyOk s → step s = .next t → CopyOk t

/-- The queue holds at most four jobs, and jobs are held only under ASSIST with the claim's expiry suspended (R98, R170). -/
def Obligations.JobsRunUnderAssist : Prop :=
  ∀ s t : State, JobsOk s → step s = .next t → JobsOk t

/-- While the effective level is CUTOFF the winch does not move and the drive is at neutral, and outside ACTIVE the winch is
IDLE and the drive at neutral (R49, R150, R162, R179); STEER_SETTLED is false throughout every transition, and a mode waits exactly
when the mode-change state says so (R134, R135, R139). CUTOFF is latched (R17): a step leaves a voltage level of CUTOFF only by a
limp-home grant to an identity that has not used it, or with the identity itself, by a pass that is NEW or a cold start. The line
count stays within max_payout (R164); that a start takes a max_payout not below the count it keeps is log entry 22 (DEDUCED). In the
working copy and the images of it, cutoff_mv < limp_mv < conserve_mv and every end_low lies below its end_high (R26, R143, R154). -/
def Obligations.MotionKeepsToTheLevel : Prop :=
  (∀ s t : State, MotionOk s → SteerOk s → step s = .next t → MotionOk t ∧ SteerOk t) ∧
    (∀ s t : State, step s = .next t → cutoffLatched s t) ∧
    (∀ s t : State, CountOk s → step s = .next t → CountOk t) ∧
    ∀ s t : State, OrderOk s → step s = .next t → OrderOk t

/-- The published allotment never grants more than its headroom, nor a class more than its demand (R39). -/
def Obligations.GrantsStayWithinHeadroom : Prop :=
  ∀ s t : State, BudgetOk s → step s = .next t → BudgetOk t

/-! ## Rules on values -/

/-- One step of the resistance estimator (R5): used from a step of at least 2,000 mA whose voltage moves against the current,
discarded outside 1 to 250 mΩ, and one eighth of the way, toward zero, otherwise; the estimate stays within 1 to 250 and an
R_new less than 8 away leaves it. -/
def Obligations.EstimatorStepsOneEighth : Prop :=
  ∀ (vOld iOld vNew iNew r : Nat), 1 ≤ r → r ≤ 250 →
    let dI : Int := (iNew : Int) - iOld
    let dV : Int := (vNew : Int) - vOld
    let rNew := dV.natAbs * 1000 / dI.natAbs
    (estimatorStep (vOld, iOld) vNew iNew =
        if 2000 ≤ dI.natAbs ∧ dV * dI < 0 ∧ 1 ≤ rNew ∧ rNew ≤ 250 then some rNew else none) ∧
      ∀ n, 1 ≤ n → n ≤ 250 →
        1 ≤ estimateToward r n ∧ estimateToward r n ≤ 250 ∧
          ((estimateToward r n : Int) = r + ((n : Int) - r).tdiv 8) ∧
          (((n : Int) - r).natAbs < 8 → estimateToward r n = r)

/-- The arithmetic of an allotment. The floor, raised by the level (R29). The headroom (R30). The five demands (R31 to R35): the
mean of the servo currents, the reports limited to 65,535 mA, and the overrides of each supply state and level. The five grants,
whatever the demands and the reserves: two passes over STEER, SIGNAL, DRIVE, WINCH, SCENE in this order, up to the reserves and then
up to the demands, DRIVE and WINCH skipped while the trip condition is true (R36 to R38); so within the headroom in sum, each within
its demand, all of it granted when it covers the demands (R39). The ratios (R40): 256 at demand 0, the floor of the quotient limited
to 256 otherwise, and 0 for DRIVE and WINCH while the trip condition is true. -/
def Obligations.AllotmentArithmetic : Prop :=
  (∀ (w : BudgetSettings) (cells : Nat),
      vFloorOf w cells .normal = cells * w.floorMv ∧
        vFloorOf w cells .conserve = cells * (w.floorMv + w.conserveRaise) ∧
        vFloorOf w cells .limp = cells * (w.floorMv + w.limpRaise) ∧
        vFloorOf w cells .cutoff = cells * (w.floorMv + w.limpRaise)) ∧
  (∀ ceiling vComp vFloor r : Nat, 1 ≤ r →
      (vComp ≤ vFloor → headroomOf ceiling vComp vFloor r = 0) ∧
        (vFloor < vComp → (vComp - vFloor) * 1000 / r ≤ ceiling →
          headroomOf ceiling vComp vFloor r = (vComp - vFloor) * 1000 / r) ∧
        (vFloor < vComp → ceiling < (vComp - vFloor) * 1000 / r → headroomOf ceiling vComp vFloor r = ceiling)) ∧
    (∀ (s : State) (supply : SupplyState) (level : Level),
      let d := demandsOf s supply level
      d.steer = Nat.min 65535 (s.monitor.servo.sum / s.monitor.servo.length) ∧
        (supply = .qualify → d.signal = 0) ∧
        (supply = .park ∨ supply = .active ∧ level = .cutoff → d.signal = Nat.min 65535 s.lights.locatePart) ∧
        (supply = .active → level ≠ .cutoff →
          d.signal = Nat.min 65535 s.lights.signalDemand ∧ d.drive = Nat.min 65535 s.drive.demand ∧
            d.winch = Nat.min 65535 s.winch.demand ∧
            d.scene = (if level = .normal then Nat.min 65535 s.lights.sceneDemand else 0)) ∧
        (supply ≠ .active ∨ level = .cutoff → d.drive = 0 ∧ d.winch = 0 ∧ d.scene = 0)) ∧
    (∀ (d r : PerClass Nat) (trip : Bool) (h : Nat),
      let g := grantsOf d r trip h
      let skips (n : Nat) : Nat := if trip = true then 0 else n
      let first :=
        passInOrder h
          [Nat.min d.steer r.steer, Nat.min d.signal r.signal, skips (Nat.min d.drive r.drive),
            skips (Nat.min d.winch r.winch), Nat.min d.scene r.scene]
      let wanted := List.zipWith (· - ·) [d.steer, d.signal, skips d.drive, skips d.winch, d.scene] first
      [g.steer, g.signal, g.drive, g.winch, g.scene] =
        List.zipWith (· + ·) first (passInOrder (h - first.sum) wanted)) ∧
    (∀ (d r : PerClass Nat) (trip : Bool) (h : Nat),
      let g := grantsOf d r trip h
      g.steer + g.signal + g.drive + g.winch + g.scene ≤ h ∧
        (g.steer ≤ d.steer ∧ g.signal ≤ d.signal ∧ g.drive ≤ d.drive ∧ g.winch ≤ d.winch ∧ g.scene ≤ d.scene) ∧
        (trip = true → g.drive = 0 ∧ g.winch = 0) ∧
        (trip = false → d.steer + d.signal + d.drive + d.winch + d.scene ≤ h → g = d) ∧
        (trip = false → h < d.steer + d.signal + d.drive + d.winch + d.scene →
          g.steer + g.signal + g.drive + g.winch + g.scene = h)) ∧
    ∀ (d g : PerClass Nat) (trip : Bool),
      let q := sharesOf d g trip
      let ratio (demand grant : Nat) : Nat := if demand = 0 then 256 else Nat.min 256 (grant * 256 / demand)
      q.steer.ratio = ratio d.steer g.steer ∧ q.signal.ratio = ratio d.signal g.signal ∧
        q.scene.ratio = ratio d.scene g.scene ∧
        q.drive.ratio = (if trip = true then 0 else ratio d.drive g.drive) ∧
        q.winch.ratio = (if trip = true then 0 else ratio d.winch g.winch)

/-- The movement of a three-position switch (R77). -/
def Obligations.SwitchMovesWithHysteresis : Prop :=
  ∀ v : Int,
    (nextPosition .low v = .mid ↔ -308 < v ∧ v ≤ 358) ∧ (nextPosition .low v = .high ↔ 358 < v) ∧
      (nextPosition .mid v = .low ↔ v < -358) ∧ (nextPosition .mid v = .high ↔ 358 < v) ∧
      (nextPosition .high v = .low ↔ v < -358) ∧ (nextPosition .high v = .mid ↔ v < 308 ∧ -358 ≤ v)

/-- A proportional function's command (R91): the driver value under DRIVER; a FULL claim's value; the driver value with the limited
offset, limited; the driver value with its magnitude limited to the cap and its sign kept. The offset of a BLEND claim is limited to
±blend_limit, and its sum with the driver value, where it lies beyond ±1000, is +1000 or −1000. -/
def Obligations.MergeRule : Prop :=
  ∀ (blend : Nat) (d : Int) (c : Claim),
    mergeProportional blend d none = d ∧
      (c.kind = .full → mergeProportional blend d (some c) = c.value) ∧
      (c.kind = .blend →
        let offset : Int := max (-(blend : Int)) (min blend c.value)
        (-1000 ≤ d + offset → d + offset ≤ 1000 → mergeProportional blend d (some c) = d + offset) ∧
          (1000 < d + offset → mergeProportional blend d (some c) = 1000) ∧
          (d + offset < -1000 → mergeProportional blend d (some c) = -1000)) ∧
      (c.kind = .cap → 0 ≤ c.value →
        ((d.natAbs : Int) ≤ c.value → mergeProportional blend d (some c) = d) ∧
          (c.value < d.natAbs → 0 < d → mergeProportional blend d (some c) = c.value) ∧
          (c.value < d.natAbs → d < 0 → mergeProportional blend d (some c) = -c.value))

/-- The state of every target, from the conditions and the gate table (R112, R113); and the value of a latch after a judgement
(R121): an absent term never holds, and reset wins. An evaluation (R114) puts the changes in the copy, judges the latches whose
terms they name, and settles the targets anew. Settling them, from whatever copy: TARGET_RELEASED for each target that enters RELEASED
comes first, in order (R117); each owner takes the freeze of its value at the entry to HELD from OPEN, its safe one from RELEASED,
keeps it while HELD stays and discards it in OPEN and RELEASED (R119, R131, R146, R163); a motion whose target is RELEASED becomes
STOPPING and a job that moves so ends ABORTED with the rest flushed (R163, R177); a waiting mode begins its transition or is dropped
(R140); nothing else moves. The code 5 of ABORTED in WINCH_JOB_END
is log entry 20 (DESIGN CHOICE). -/
def Obligations.GatesAndLatches : Prop :=
  (∀ (w : InterlockSettings) (k : Conds) (t : Target),
      let closes (a : GateAction) : Prop := ∃ g ∈ w.gates.toList, gateCloses k g ∧ g.target = some t ∧ g.action = a
      ((derive w k).targets.get t = .released ↔ closes .release) ∧
        ((derive w k).targets.get t = .held ↔ ¬closes .release ∧ closes .hold) ∧
        ((derive w k).targets.get t = .opened ↔ ¬closes .release ∧ ¬closes .hold)) ∧
    (∀ (l : Latch) (k : Conds) (before : Bool),
      let holds (t : Option GateTerm) : Prop := ∃ x, t = some x ∧ k.get x.cond = x.pol
      (holds l.reset → l.judge k before = false) ∧ (¬holds l.reset → holds l.set → l.judge k before = true) ∧
        (¬holds l.reset → ¬holds l.set → l.judge k before = before)) ∧
    (∀ (ch : Changes) (s : State),
      let names (l : Latch) : Prop := ∃ p ∈ ch, ∃ x : GateTerm, (l.set = some x ∨ l.reset = some x) ∧ x.cond = p.1
      let w := s.cfg.interlock
      let copy := ch.foldl (fun k p => k.set p.1 p.2) s.interlock.conds
      ∃ k, targetsTaken k s (evaluate ch s) ∧
        (∀ c, c ≠ .latchA → c ≠ .latchB → k.get c = copy.get c) ∧
        (names w.latchA → k.latchA = w.latchA.judge copy copy.latchA) ∧ (¬names w.latchA → k.latchA = copy.latchA) ∧
        (names w.latchB → k.latchB = w.latchB.judge copy copy.latchB) ∧ (¬names w.latchB → k.latchB = copy.latchB)) ∧
    ∀ (k : Conds) (s : State),
      targetsTaken k s (settleTargets s.interlock.targets { s with interlock := derive s.cfg.interlock k })

/-- The commands of the two axles in each mode (R129); the target of an output (R130): 1500 + trim with the travel added, or
subtracted when reversed, limited to the endpoints; the slew of an output (R132): scaled by the ratio, 1 µs where that gives 0; the
target when it is that near, otherwise one step toward it, and always within the endpoints. -/
def Obligations.SteeringArithmetic : Prop :=
  (∀ (ratio : Nat) (s : Int),
      (frontCommand .front s = s ∧ rearCommand .front ratio s = 0) ∧
        (frontCommand .rear s = 0 ∧ rearCommand .rear ratio s = s) ∧
        (frontCommand .counter s = s ∧ rearCommand .counter ratio s = -((s * ratio).tdiv 100)) ∧
        (frontCommand .crab s = s ∧ rearCommand .crab ratio s = (s * ratio).tdiv 100)) ∧
    (∀ (v : ServoSettings) (c : Int), v.endLow < v.endHigh →
      let t := 1500 + v.trim + (if v.rev = true then -1 else 1) * (c * v.throw).tdiv 1000
      v.endLow ≤ servoTarget v c ∧ servoTarget v c ≤ v.endHigh ∧
        (v.endLow ≤ t → t ≤ v.endHigh → servoTarget v c = t) ∧
        (t < v.endLow → servoTarget v c = v.endLow) ∧ (v.endHigh < t → servoTarget v c = v.endHigh)) ∧
    (∀ slew q : Nat, slewEff slew q = if slew * q / 256 = 0 then 1 else slew * q / 256) ∧
    ∀ (v : ServoSettings) (step : Nat) (out target : Int), v.endLow < v.endHigh →
      v.endLow ≤ slewToward v step out target ∧ slewToward v step out target ≤ v.endHigh ∧
        (v.endLow ≤ target → target ≤ v.endHigh → v.endLow ≤ out → out ≤ v.endHigh →
          ((target - out).natAbs ≤ step → slewToward v step out target = target) ∧
            (step < (target - out).natAbs → out < target → slewToward v step out target = out + step) ∧
            (step < (target - out).natAbs → target < out → slewToward v step out target = out - step))

/-- The candidate of the drive (R147): the gated throttle scaled toward zero, limited in LIMP to the cap with its sign kept, and 0
in a trip or in CUTOFF. The ramp (R148): off at 0; a move toward 0 is not limited; a rise goes on from p, or from 0 after a
reversal, by at most ramp_d. -/
def Obligations.DriveArithmetic : Prop :=
  (∀ (g : Int) (q : Nat) (level : Level) (trip : Bool) (pct : Nat),
      let c := driveCandidate g q level trip pct
      let scaled := (g * q).tdiv 256
      c.natAbs ≤ g.natAbs * q / 256 ∧ (trip = true ∨ level = .cutoff → c = 0) ∧ (0 ≤ g → 0 ≤ c) ∧ (g ≤ 0 → c ≤ 0) ∧
        (trip = false → level = .normal ∨ level = .conserve → c = scaled) ∧
        (trip = false → level = .limp →
          (scaled.natAbs ≤ pct * 10 → c = scaled) ∧ (pct * 10 < scaled.natAbs → c.natAbs = pct * 10))) ∧
    ∀ (ramp : Nat) (p c : Int),
      (rampStep ramp p c).natAbs ≤ c.natAbs ∧ (ramp = 0 → rampStep ramp p c = c) ∧ rampStep ramp p 0 = 0 ∧
        (0 < c → c ≤ p → rampStep ramp p c = c) ∧ (c < 0 → p ≤ c → rampStep ramp p c = c) ∧
        (0 < ramp → 0 < c → 0 < p → p < c → rampStep ramp p c = p + Int.ofNat (Nat.min ramp (c - p).toNat)) ∧
        (0 < ramp → 0 < c → p ≤ 0 → rampStep ramp p c = Int.ofNat (Nat.min ramp c.toNat)) ∧
        (0 < ramp → c < 0 → p < 0 → c < p → rampStep ramp p c = p - Int.ofNat (Nat.min ramp (p - c).toNat)) ∧
        (0 < ramp → c < 0 → 0 ≤ p → rampStep ramp p c = -Int.ofNat (Nat.min ramp (-c).toNat))

/-- The source of a channel is the first row of R184's table that applies. What those rows read: the hazard is active while any of its
five sources is true (R187), and a judgement of the turn signals takes the STEER command against turn_threshold (R188). -/
def Obligations.ChannelSourceTable : Prop :=
  (∀ s : State,
      (hazardActive s = true ↔
          s.radio.link = .lost ∨ (s.protection.effective = .limp ∨ s.protection.effective = .cutoff) ∨
            s.cfg.lights.winchHazard = true ∧ (s.winch.st = .hauling ∨ s.winch.st = .payingOut) ∨
            s.lights.hazardAssist = true ∨ s.lights.hazardGesture = true) ∧
        let v := s.authority.commands.steer
        let threshold := s.cfg.lights.turnThreshold
        let t := judgeTurns s
        (t.lights.turnL = true ↔ threshold ≠ 0 ∧ v ≤ -(threshold : Int)) ∧
          (t.lights.turnR = true ↔ threshold ≠ 0 ∧ (threshold : Int) ≤ v) ∧
          { t with lights := { t.lights with turnL := s.lights.turnL, turnR := s.lights.turnR } } = s) ∧
  ∀ (s : State) (i : Fin 8),
    let e := s.cfg.lights.channels.get i
    let auto := ((sceneInForce s).get i) = none
    let turn := e.role = .turnL ∨ e.role = .turnR
    let rows : List (Prop × Source) :=
      [(e.locate = true ∧ s.lights.locate = true, .locate), (turn ∧ hazardActive s = true, .hazard),
        (e.role = .turnL ∧ s.lights.turnL = true ∨ e.role = .turnR ∧ s.lights.turnR = true, .turn),
        (e.role = .brake ∧ auto ∧ s.authority.neutral = true, .brake),
        (e.role = .reverse ∧ auto ∧ s.drive.dEff < -(s.radio.bands.throttle : Int), .reverse), (True, .scene)]
    ∃ before p after, rows = before ++ (p, channelSource s i) :: after ∧ p ∧ ∀ r ∈ before, ¬r.1

/-- The three rows of an entry into the log (R198). -/
def Obligations.LogEntryRule : Prop :=
  ∀ (l : Log) (r : LogRecord), l.ring.length ≤ 48 → l.unread ≤ l.ring.length →
    (l.ring.length < 48 →
        (l.enter r).ring = l.ring ++ [r] ∧ (l.enter r).unread = l.unread + 1 ∧ (l.enter r).overwritten = l.overwritten) ∧
      (l.ring.length = 48 → l.unread < 48 →
        (l.enter r).ring = l.ring.drop 1 ++ [r] ∧ (l.enter r).unread = l.unread + 1 ∧
          (l.enter r).overwritten = l.overwritten ∧ (l.enter r).unreadRecords = l.unreadRecords ++ [r]) ∧
      (l.ring.length = 48 → l.unread = 48 →
        (l.enter r).ring = l.ring.drop 1 ++ [r] ∧ (l.enter r).unread = 48 ∧ (l.enter r).overwritten = true)

/-- A number of a setting, in the bytes its range gives it, reads back as itself, for every range that 16 bits hold (R212). The
settings of the part, and what each admits (R208): of one that is a number, every value of its length, clamped, but for one that would
cross the thresholds or the endpoints (R26, R143, R154); of one that is a byte of a list, the bytes of that list; of capacity_mah,
protection_mode and max_payout, every value of their length (R23, R26, R165). An accepted value stands in that setting alone. That a
duration is such a number is log entry 53 (DESIGN CHOICE). -/
def Obligations.NumbersReadBack : Prop :=
  (∀ lo hi v : Int, lo ≤ v → v ≤ hi → (0 ≤ lo ∧ hi ≤ 65535 ∨ -32768 ≤ lo ∧ hi ≤ 32767) →
      decodeNum (widthOf lo hi) (encodeNum (widthOf lo hi) v) = some v) ∧
    ∀ (lineCount id : Nat) (value : List Byte) (w : Settings),
      let admits (p : Prop) : Prop := ∃ d, settingOf lineCount id = some d ∧ (d.write value w = .invalid ↔ ¬p)
      (∀ lo hi, (id, lo, hi) ∈ numberSettings →
          admits (∃ n, decodeNum (widthOf lo hi) value = some n ∧ orderedWith w id (nearest lo hi n))) ∧
        (∀ allowed, (id, allowed) ∈ byteSettings → admits (∃ x : Byte, value = [x] ∧ x.toNat ∈ allowed)) ∧
        (id = 0x010B → admits (value.length = 1)) ∧ (id = 0x0101 ∨ id = 0x0900 → admits (value.length = 2)) ∧
        ∀ d w' clamped, settingOf lineCount id = some d → d.write value w = .stored w' clamped →
          ∀ id' d', id' ≠ id → settingOf lineCount id' = some d' → d'.read w' = d'.read w

/-! ## Requests (chapter 12) -/

/-- A request taken in QUALIFY or ACTIVE, and PARK taken anywhere, is activity before its owner judges it (R205, R206): the activity
window begins anew, ASSIST_ACTIVE is true for the Interlock Unit too, the idle timer restarts in ACTIVE (R65), and nothing moves
but what the evaluation of ASSIST_ACTIVE moves. A request other than PARK first wakes a parked part (R67, R68): ACTIVE, PARK_WAKE
with source ASSIST before any other record, SRV_EN asserted, the 2 ms period with no previous set. -/
def Obligations.TakenRequestIsActivity : Prop :=
  ∀ (wakes : Bool) (s : State),
    let t := taken wakes s
    (s.supply.state ≠ .park ∨ wakes = false →
        t.assist = { s.assist with window := some (timerAt s.now 1000) } ∧ t.interlock.conds.assistActive = true ∧
          t.supply.idle =
            (if s.supply.state = .active ∧ s.cfg.supply.parkIdleMin ≠ 0 then
              some (timerAt s.now (s.cfg.supply.parkIdleMin * 60000)) else none) ∧
          t.still = { s with assist := { s.assist with window := some (timerAt s.now 1000) } }.still) ∧
      (s.supply.state = .park → wakes = true →
        t.supply.state = .active ∧ logged s.now s.retention.log [record s .parkWake [2]] t.retention.log ∧
          t.interlock.conds.assistActive = true ∧
          (s.pins.srvPg = true → t.supply.rail = .good ∧ t.supply.railWait = none) ∧
          (s.pins.srvPg = false → t.supply.rail = .wait ∧ t.supply.railWait = some (timerAt s.now 50)) ∧
          t.monitor = { s.monitor with clock := { last := s.now, period := 2 }, prev := none } ∧
          t.assist = { s.assist with window := some (timerAt s.now 1000) } ∧
          (s.cfg.supply.parkIdleMin ≠ 0 → t.supply.idle = some (timerAt s.now (s.cfg.supply.parkIdleMin * 60000))) ∧
          t.still =
            { s with
              supply := { s.supply with state := .active, rail := t.supply.rail, railWait := t.supply.railWait }
              monitor := t.monitor, assist := t.assist }.still)

/-- In RETAIN no request of any kind changes anything (R49, R204). Where the port is served: a request of a length it does not
accept is answered INVALID without reaching its owner, a code outside the catalogue UNKNOWN, and a transaction released before its
request is complete takes nothing and leaves the slot, which it has shifted out from its first byte (R204, R205). -/
def Obligations.RequestsThatReachNoOwner : Prop :=
  ∀ (c : Instr) (code : Byte) (r : Request) (bytes : List Byte) (s : State),
    (s.supply.state = .retain →
        (∀ row, catalogueRow c = some row → exec c s = .next s) ∧ exec (.unknownRequest code r) s = .next s ∧
          exec (.incompleteTransaction bytes) s = .next s) ∧
      (s.supply.state ≠ .retain →
        (∀ row, catalogueRow c = some row → row.request.params.length ∉ row.lengths →
            exec c s = .next (answered row.code .invalid [] row.request s (taken (row.code != 0x0E) s))) ∧
          exec (.unknownRequest code r) s = .next (answered code .unknown [] r s (taken true s)) ∧
          exec (.incompleteTransaction bytes) s =
            .next { s with
              assist := { s.assist with
                shifted := s.assist.slot.take bytes.length ++ List.replicate (bytes.length - s.assist.slot.length) 0,
                inProgress := [] } })

/-- NOP and the requests that read a record are answered OK with the record as the taking left it, and change nothing beyond the
taking (R25, R43, R107, R207). The data are the fields in the order the rules list them, encoded by R212: READ_STATUS; READ_PACK
with the retained figures of the identity, or with none r_init, NORMAL and zeros; READ_ALLOTMENT, the published record;
READ_COMMANDS, the five commands and THROTTLE_NEUTRAL, and then the model's encoding of the five entries, which the statement does
not spell out: their layout, with what the reference of a claim holds, is log entry 24 (DESIGN CHOICE), which R107 does not give.
The byte order of 32 bits is log entry 23 (DEDUCED); of a figure above 16 bits the length alone is stated (a free value, log entry
25). V_cell and the energy figures after a NEW pass are log entries 46 and 54, R after a write of r_init with no identity log entry
47, remaining_pct after a write of capacity_mah in QUALIFY (R10, R26) log entry 52 (all DESIGN CHOICE). -/
def Obligations.ReadRequestsAnswer : Prop :=
  ∀ (r : Request) (s : State), s.powered = true → r.params = [] →
    let u := taken true s
    exec (.nop r) s = .next (answered 0x01 .ok [] r s u) ∧
      exec (.readStatus r) s =
        .next (answered 0x02 .ok
          [byteOf u.supply.state.code, byteOf u.protection.effective.code, byteOf u.radio.link.code, byteOf u.quality,
            flagByte u.retention.flags.cold, flagByte u.retention.flags.pack, flagByte u.retention.flags.restart,
            byteOf u.store.commit.code, flagByte u.supply.backupReady, 1, byteOf u.retention.log.unread] r s u) ∧
      exec (.readPack r) s = .next (answered 0x03 .ok (packData u) r s u) ∧
      exec (.readAllotment r) s = .next (answered 0x04 .ok (allotmentData u.budget) r s u) ∧
      exec (.readCommands r) s = .next (answered 0x05 .ok (commandsData u) r s u) ∧
      let sent (n : Nat) (b : List Byte) : Prop := b.length = 2 ∧ (n ≤ 65535 → b = le16 n)
      let pack (cells rEst cellMv : Nat) (level : Level) (tripLimp used : Bool) (trips : List Time) (left : Nat) : Prop :=
        ∃ vComp vCell usedMah, sent u.monitor.latest.vComp vComp ∧ sent cellMv vCell ∧ sent u.monitor.usedMah usedMah ∧
          packData u = le16 u.monitor.latest.vMeas ++ le16 u.monitor.latest.iMeas ++ vComp ++ vCell ++
            [byteOf rEst, byteOf cells] ++ usedMah ++
            [match u.monitor.remainingPct with | some pct => byteOf pct | none => 0xFF,
              byteOf level.code, byteOf u.protection.energy.code, byteOf u.protection.effective.code, flagByte tripLimp,
              flagByte u.monitor.tripHold.isSome] ++
            byteOf trips.length :: ((trips.map (fun t => le32 t.toNat)).flatten ++
              List.replicate (4 * (3 - trips.length)) 0) ++
            flagByte used :: le32 left ++ [u.cfg.pack.protectionMode]
      (∀ i, u.retention.identity = some i →
          pack i.cells i.r u.monitor.latest.vCell i.level i.tripLimp.isSome i.limpUsed i.trips
            (match i.limpPeriod with | some t0 => t0.dur - elapsed u.now t0.start | none => 0)) ∧
        (u.retention.identity = none → pack 0 u.cfg.pack.rInit 0 .normal false false [] 0) ∧
        (let a := u.budget
         let share (c : ClassShare) : List Byte := le16 c.demand ++ le16 c.grant ++ le16 c.ratio
         ∃ vComp vFloor, sent a.vComp vComp ∧ sent a.vFloor vFloor ∧
           allotmentData a = le32 a.time.toNat ++ [byteOf a.supply.code, byteOf a.level.code, byteOf a.cells] ++ vComp ++
             vFloor ++ le16 a.headroom ++ [flagByte a.tripFixed] ++ share a.classes.steer ++ share a.classes.signal ++
             share a.classes.drive ++ share a.classes.winch ++ share a.classes.scene) ∧
        let k := u.authority.commands
        commandsData u = leSigned16 k.throttle ++ leSigned16 k.steer ++ [byteOf k.mode.code] ++ leSigned16 k.winch ++
          [byteOf k.scene, flagByte u.authority.neutral] ++
          allFns.flatMap (fun f =>
            claimData u.now (u.authority.entries.get f).claim ++ lockoutData u.now (u.authority.entries.get f).lockout)

/-- READ_LOG (R200): the record at the read point, the flag and the count that remains; the read point moves on, the flag is
cleared and ALERT is judged. With nothing unread the answer is EMPTY with the flag, which is cleared. In the bytes of the record
(section 12.4.4) the 32-bit time and the number of its source are log entry 23 (DEDUCED). -/
def Obligations.ReadLogReturnsTheOldestUnread : Prop :=
  ∀ (r : Request) (s : State), s.powered = true → LogOk s → r.params = [] →
    let u := taken true s
    (∀ x rest, u.retention.log.unreadRecords = x :: rest →
        ∃ t, exec (.readLog r) s = .next t ∧
          t = answered 0x0F .ok (recordBytes x u.retention.log.overwritten rest.length) r s
            { u with retention := t.retention, alert := t.alert } ∧
          t.retention = { u.retention with log := { u.retention.log with unread := rest.length, overwritten := false } } ∧
          t.retention.log.unreadRecords = rest ∧ t.alert = rest.any (fun y => u.cfg.alertMask.admits y.kind.severity)) ∧
      (u.retention.log.unreadRecords = [] →
        exec (.readLog r) s =
          .next (answered 0x0F .empty [flagByte u.retention.log.overwritten] r s
            { u with retention := { u.retention with log := { u.retention.log with overwritten := false } } }))

/-- A CLAIM that is taken (R94, R95). On a function under DRIVER, with no lockout and, for THROTTLE and WINCH, the link UP: kind,
limited value, reference and time of refresh are recorded. On a function under ASSIST: the same, with the reference kept, and no
lockout and no link judged. Either way the expiry begins (suspended on WINCH while jobs are held), the commands are formed with the
claim, and nothing else moves but what THROTTLE_NEUTRAL, the mode request and STEER_SETTLED bring about. -/
def Obligations.ClaimIsTaken : Prop :=
  ∀ (fb kb lo hi : Byte) (extra : List Byte) (f : Fn) (k : ClaimKind) (s : State), s.powered = true →
    fnOfCode fb.toNat = some f → claimKindOfCode kb.toNat = some k → kindAllowed f k = true →
    valuePossible f (int16 lo hi) = true →
    let r : Request := { params := [fb, kb, lo, hi], extra := extra }
    let u := taken true s
    let v := claimValue f k (int16 lo hi)
    let st : Status := if v = int16 lo hi then .ok else .okClamped
    let becomes (c : Claim) : Prop :=
      ∃ t, exec (.claim r) s = .next t ∧
        t.still = (answered 0x06 st [] r s (judgeTurns (setCommands (setClaim f c u)))).still ∧
        (f ≠ .winch ∨ u.winch.queue = [] →
          (t.authority.entries.get f).claim = some { c with expiry := some (timerAt u.now u.cfg.authority.claimHoldMs) })
    ((u.authority.entries.get f).claim = none → (u.authority.entries.get f).lockout = none →
        (f = .throttle ∨ f = .winch → u.radio.link = .up) →
        becomes
          { kind := k, value := v, reference := if f = .winch then 0 else driverValue u f,
            refPos := switchPosition u.radio.driver f, refreshed := u.now, expiry := claimExpiryFor u f }) ∧
      ∀ c, (u.authority.entries.get f).claim = some c →
        becomes { c with kind := k, value := v, refreshed := u.now, expiry := claimExpiryFor u f }

/-- A CLAIM that is not taken changes nothing beyond its taking as a request (R94, R95): INVALID for an unknown function, an
unknown or disallowed kind or an impossible mode or scene, refresh or not; LOCKED_OUT under a lockout; REFUSED for THROTTLE
and WINCH with the link other than UP. -/
def Obligations.ClaimIsRefused : Prop :=
  ∀ (fb kb lo hi : Byte) (extra : List Byte) (s : State), s.powered = true →
    let r : Request := { params := [fb, kb, lo, hi], extra := extra }
    let u := taken true s
    (fnOfCode fb.toNat = none → exec (.claim r) s = .next (answered 0x06 .invalid [] r s u)) ∧
      (claimKindOfCode kb.toNat = none → exec (.claim r) s = .next (answered 0x06 .invalid [] r s u)) ∧
      ∀ f k, fnOfCode fb.toNat = some f → claimKindOfCode kb.toNat = some k →
        (f = .steerMode ∨ f = .lights → k ≠ .full ∨ int16 lo hi < 0 ∨ 3 < int16 lo hi →
            exec (.claim r) s = .next (answered 0x06 .invalid [] r s u)) ∧
          (kindAllowed f k = true → valuePossible f (int16 lo hi) = true →
            (u.authority.entries.get f).claim = none →
            ((u.authority.entries.get f).lockout ≠ none →
                exec (.claim r) s = .next (answered 0x06 .lockedOut [] r s u)) ∧
              ((u.authority.entries.get f).lockout = none → f = .throttle ∨ f = .winch → u.radio.link ≠ .up →
                exec (.claim r) s = .next (answered 0x06 .refused [] r s u)))

/-- RELEASE (R99): the claim ends RELEASED, CLAIM_END is the first record, the commands are formed without it, and on WINCH
every job held is gone (R105, R176); INVALID for an unknown function, NOT_HELD under DRIVER. -/
def Obligations.ReleaseEndsTheClaim : Prop :=
  ∀ (fb : Byte) (extra : List Byte) (s : State), s.powered = true →
    let r : Request := { params := [fb], extra := extra }
    let u := taken true s
    (fnOfCode fb.toNat = none → exec (.release r) s = .next (answered 0x07 .invalid [] r s u)) ∧
      ∀ f, fnOfCode fb.toNat = some f →
        ((u.authority.entries.get f).claim = none → exec (.release r) s = .next (answered 0x07 .notHeld [] r s u)) ∧
          ∀ c, (u.authority.entries.get f).claim = some c →
            let freed : State :=
              { u with
                authority := { u.authority with
                  entries := u.authority.entries.set f { u.authority.entries.get f with claim := none } } }
            ∃ t, exec (.release r) s = .next t ∧
              t.still = (answered 0x07 .ok [] r s (judgeTurns (setCommands freed))).still ∧
              logged u.now u.retention.log [record u .claimEnd [fnCode f, c.kind.code, 1]] t.retention.log ∧
              (f = .winch → t.winch.queue = [])

/-- WINCH_JOB (R170, R171, R96). Accepted: the job joins the tail of the queue, each field limited to its range, and WINCH is under
ASSIST with its expiry suspended, by a FULL claim at 0 where the driver held it. The ranges are 100 to 1,000 of the duty, 1 to 60,000
ms of the timeout, and of the amount 1 to 60,000 counts, 100 to stall_ma − 500 mA, or 100 to 60,000 ms of a FREE_FOR; OK_CLAMPED says
that a field lay outside, or a tension amount at stall_ma − 500. Refused, by the first row of R170 that applies: nothing changes
beyond the taking. -/
def Obligations.WinchJobIsJudged : Prop :=
  (∀ (kb d0 d1 t0 t1 tag a0 a1 : Byte) (extra : List Byte) (k : JobKind) (s : State), s.powered = true →
      jobKindOfCode kb.toNat = some k →
      let amount : Option Nat := if k = .haulToStow then none else some (num16 a0 a1)
      let r : Request :=
        { params := [kb, d0, d1, t0, t1, tag] ++ (if k = .haulToStow then [] else [a0, a1]), extra := extra }
      let u := taken true s
      let j := acceptedJob u.cfg.winch.stallMa k (num16 d0 d1) (num16 t0 t1) tag.toNat amount
      let st : Status := if j.2 = true then .okClamped else .ok
      let top : Nat := match k with | .haulToTension => u.cfg.winch.stallMa - 500 | _ => 60000
      let bottom : Nat := match k with | .haulBy | .payoutBy => 1 | _ => 100
      let limited (lo hi n : Nat) : Nat := if n < lo then lo else if hi < n then hi else n
      u.winch.queue.length < 4 → u.authority.entries.winch.lockout = none → u.radio.link = .up →
      u.supply.state = .active → u.protection.effective ≠ .cutoff → u.winch.st ≠ .stalled →
      (u.authority.entries.winch.claim = none → u.winch.queue = []) →
      ∃ t, exec (.winchJob r) s = .next t ∧ t.winch.queue = u.winch.queue ++ [j.1] ∧
        (j.1.kind = k ∧ j.1.tag = tag.toNat ∧ j.1.duty = limited 100 1000 (num16 d0 d1) ∧
          j.1.timeout = limited 1 60000 (num16 t0 t1) ∧ j.1.amount = amount.map (limited bottom top) ∧
          (j.2 = true ↔
            (num16 d0 d1 < 100 ∨ 1000 < num16 d0 d1) ∨ (num16 t0 t1 < 1 ∨ 60000 < num16 t0 t1) ∨
              ∃ n, amount = some n ∧ (n < bottom ∨ top < n ∨ k = .haulToTension ∧ n = top))) ∧
        t.assist.slot = responseBytes st 0x08 [] ∧
        (u.authority.entries.winch.claim = none →
          let c : Claim := { kind := .full, value := 0, reference := 0, refPos := none, refreshed := u.now, expiry := none }
          t.authority.entries.winch.claim = some c ∧
            t.still = (answered 0x08 st [] r s (judgeTurns (setCommands (setClaim .winch c u)))).still) ∧
        (∀ c, u.authority.entries.winch.claim = some c →
          t = answered 0x08 st [] r s
            { u with
              winch := { u.winch with queue := u.winch.queue ++ [j.1] }
              authority := { u.authority with
                entries :=
                  u.authority.entries.set .winch
                    { u.authority.entries.winch with claim := some { c with expiry := none } } } })) ∧
    ∀ (r : Request) (s : State), s.powered = true → r.params.length = 6 ∨ r.params.length = 8 →
      let u := taken true s
      let no (st : Status) : Prop := exec (.winchJob r) s = .next (answered 0x08 st [] r s u)
      (jobKindOfCode (byteAt r.params 0).toNat = none → no .invalid) ∧
        ∀ k, jobKindOfCode (byteAt r.params 0).toNat = some k →
          ((k = .haulToStow ↔ r.params.length = 8) → no .invalid) ∧
            ((k = .haulToStow ↔ r.params.length = 6) →
              (4 ≤ u.winch.queue.length → no .queueFull) ∧
                (u.winch.queue.length < 4 → u.authority.entries.winch.lockout ≠ none → no .lockedOut) ∧
                (u.winch.queue.length < 4 → u.authority.entries.winch.lockout = none →
                  u.radio.link ≠ .up ∨ u.supply.state ≠ .active ∨ u.protection.effective = .cutoff ∨
                    u.winch.st = .stalled →
                  no .refused))

/-- WINCH_CANCEL (R175): EMPTY with no job held; otherwise every job is gone and the winch stops what a running one did, with
WINCH_JOB_END and then QUEUE_FLUSHED; where none has started, QUEUE_FLUSHED alone is logged and the winch goes on (R177).
WINCH_CLEAR (R168): STALLED becomes IDLE at once; REFUSED in any other state. The outcome ABORTED has the code 5 in the record by
log entry 20 (DESIGN CHOICE). -/
def Obligations.WinchCancelAndClear : Prop :=
  ∀ (r : Request) (s : State), s.powered = true → r.params = [] →
    let u := taken true s
    (u.winch.queue = [] → exec (.winchCancel r) s = .next (answered 0x09 .empty [] r s u)) ∧
      (u.winch.queue ≠ [] →
        ∃ t, exec (.winchCancel r) s = .next t ∧ t.still = (answered 0x09 .ok [] r s u).still ∧ t.winch.queue = [] ∧
          (u.winch.running = none → t.winch.st.moves = true → t.winch.st = u.winch.st) ∧
          (u.winch.running = none → logged u.now u.retention.log [record u .queueFlushed [u.winch.queue.length]] t.retention.log) ∧
          (u.winch.running = none → u.interlock.conds.winchMoving = u.winchMoving →
            t.winch = { u.winch with queue := [] } ∧
              t.retention.log = u.retention.log.enter (record u .queueFlushed [u.winch.queue.length])) ∧
          (∀ run j rest, u.winch.running = some run → u.winch.queue = j :: rest →
            t.winch.st =
                (if u.winch.st.moves = true then .stopping else if u.winch.st = .free then .idle else u.winch.st) ∧
              logged u.now u.retention.log
                ([record u .winchJobEnd [j.tag, 5, run.moved]] ++
                  (if rest = [] then [] else [record u .queueFlushed [rest.length]])) t.retention.log)) ∧
      (u.winch.st ≠ .stalled → exec (.winchClear r) s = .next (answered 0x0A .refused [] r s u)) ∧
      (u.winch.st = .stalled →
        ∃ t, exec (.winchClear r) s = .next t ∧ t.winch.st = .idle ∧ t.winch.neutralRun = none ∧ t.winch.demand = 0 ∧
          t.winch.queue = u.winch.queue ∧ t.still = (answered 0x0A .ok [] r s u).still ∧
          t.retention = u.retention ∧ t.interlock = u.interlock ∧ t.authority = u.authority ∧ t.lights = u.lights ∧
          t.steering = u.steering)

/-- HAZARD (R187) sets or clears the assist flag; any other value is INVALID. ACK_LOCATE (R195) clears a set latch, logs
LOCATE_ACK first and hands LOCATE_ACTIVE on; REFUSED with the latch clear. That SET is 0 and CLEAR 1 in HAZARD, by their order in
the text (section 12.2, R205, R212), is log entry 21 (DEDUCED). -/
def Obligations.HazardAndAckLocate : Prop :=
  ∀ (v : Byte) (extra : List Byte) (r : Request) (s : State), s.powered = true → r.params = [] →
    let h : Request := { params := [v], extra := extra }
    let u := taken true s
    (v.toNat ≤ 1 →
        ∃ t, exec (.hazard h) s = .next t ∧ t.lights.hazardAssist = (v == 0) ∧
          t.still = (answered 0x0B .ok [] h s { u with lights := { u.lights with hazardAssist := v == 0 } }).still ∧
          { t with lights := u.lights } = answered 0x0B .ok [] h s u) ∧
      (1 < v.toNat → exec (.hazard h) s = .next (answered 0x0B .invalid [] h s u)) ∧
      (u.lights.locate = false → exec (.ackLocate r) s = .next (answered 0x0C .refused [] r s u)) ∧
      (u.lights.locate = true →
        ∃ t, exec (.ackLocate r) s = .next t ∧
          t.still = (answered 0x0C .ok [] r s { u with lights := { u.lights with locate := false } }).still ∧
          t.interlock.conds.locateActive = false ∧
          logged u.now u.retention.log [record u .locateAck [0]] t.retention.log)

/-- LIMP_HOME (R21): a grant in ACTIVE or PARK from CUTOFF with limp-home unused sets the used flag, the voltage level to LIMP
and the period, and logs LIMP_HOME_GRANTED first; USED when it was used; REFUSED otherwise. -/
def Obligations.LimpHomeIsGrantedOnce : Prop :=
  ∀ (r : Request) (s : State), s.powered = true → r.params = [] →
    let u := taken true s
    (∀ i, u.supply.state ≠ .qualify → u.retention.identity = some i → i.level = .cutoff →
        (i.limpUsed = true → exec (.limpHome r) s = .next (answered 0x0D .used [] r s u)) ∧
          (i.limpUsed = false → u.protection.energy ≠ .cutoff →
            ∃ t, exec (.limpHome r) s = .next t ∧ t.protection.effective = .limp ∧
              t.retention.identity = some { i with
                limpUsed := true, level := .limp, limpPeriod := some (timerAt u.now (u.cfg.pack.limpHomeS * 1000)) } ∧
              logged u.now u.retention.log [record u .limpHomeGranted [0, u.cfg.pack.limpHomeS]] t.retention.log ∧
              t.still = (answered 0x0D .ok [] r s
                { u with
                  retention := { u.retention with identity := t.retention.identity }
                  protection := { u.protection with effective := .limp } }).still)) ∧
      (u.supply.state = .qualify ∨ u.voltageLevel ≠ .cutoff →
        exec (.limpHome r) s = .next (answered 0x0D .refused [] r s u))

/-- PARK (R64): entered from ACTIVE; OK and still parked in PARK, which it does not wake; REFUSED in QUALIFY. The park idle timer's
expiry in ACTIVE (R65): PARK with source IDLE when the winch is IDLE or FREE and the mode protocol STEADY; otherwise the timer
restarts and nothing else changes. The entry ends every claim and forms the commands as driver values (R106, R108), ends the mode
protocol (R141), and stops the drive (R150) and the winch (R179); that the output then is the neutral of trim_d as it stands at the
entry is log entry 30 (DEDUCED). -/
def Obligations.ParkingIsEntered : Prop :=
  (∀ (r : Request) (s : State), r.params = [] →
      let u := taken false s
      (s.supply.state = .qualify → exec (.park r) s = .next (answered 0x0E .refused [] r s u)) ∧
        (s.supply.state = .park →
          exec (.park r) s = .next (answered 0x0E .ok [] r s u) ∧ u.supply.state = .park) ∧
        (s.supply.state = .active →
          ∃ t, exec (.park r) s = .next t ∧ parkedFrom .request u t ∧ t.assist = (answered 0x0E .ok [] r s u).assist)) ∧
    ∀ s : State, s.supply.state = .active → dueAt s.supply.idle s.now = true →
      let quiet := (s.winch.st = .idle ∨ s.winch.st = .free) ∧ s.steering.phase = .steady
      (quiet → ∃ t, exec .parkIdleExpiry s = .next t ∧ parkedFrom .idle s t ∧ t.assist = s.assist) ∧
        (¬quiet → exec .parkIdleExpiry s = .next (restartIdle s))

/-- READ_SETTING gives the working copy's value; WRITE_SETTING stores an accepted value there, each number outside its range as the
nearer bound and answered OK_CLAMPED, the others OK, leaves the non-volatile store alone, and READ_SETTING then gives that value
back in the bytes it was sent in (its lists padded with zero entries; an absent class as the role's: R23, R26, R197, R212); INVALID
and BUSY change nothing beyond the taking (R208). A setting of the chapters whose settings are read only when used (1, 2, 7, 8, 9)
changes nothing but the working copy. What a write does at once: park_idle_min restarts the idle timer (R65); a gesture entry
returns to CLEAR (R87); blend_limit forms the commands anew (R92); a gate has every target judged anew, a latch is judged from clear
first (R126); a channel, a pattern and locate_pattern restart the runs they name, P2 the blinker that runs, and every write of
chapter 10 has the sources, the darkness and the demands taken anew (R185, R186, R192, R197); alert_mask has ALERT judged (R201). A
clamped write of protection_mode logs SETTING_GUARD (R23), in which the origin WRITE is 0 (R212) by log entry 21 (DEDUCED). The
bytes of a duration in a setting value are log entry 53, of the target NONE log entry 49, and WINCH_MOVING before STEER_SETTLED
after a gate or latch entry 55 (DESIGN CHOICE). -/
def Obligations.SettingRequests : Prop :=
  ∀ (lo hi v : Byte) (vs extra : List Byte) (s : State), s.powered = true → vs.length ≤ 27 →
    let id := num16 lo hi
    let rd : Request := { params := [lo, hi], extra := extra }
    let wr : Request := { params := lo :: hi :: v :: vs, extra := extra }
    let u := taken true s
    (settingOf u.retention.lineCount id = none →
        exec (.readSetting rd) s = .next (answered 0x10 .invalid [] rd s u) ∧
          (u.store.writing = none → exec (.writeSetting wr) s = .next (answered 0x11 .invalid [] wr s u))) ∧
      (u.store.writing ≠ none → exec (.writeSetting wr) s = .next (answered 0x11 .busy [] wr s u)) ∧
      ∀ d, settingOf u.retention.lineCount id = some d →
        exec (.readSetting rd) s = .next (answered 0x10 .ok (d.read u.cfg) rd s u) ∧
          (u.store.writing = none → d.write (v :: vs) u.cfg = .invalid →
            exec (.writeSetting wr) s = .next (answered 0x11 .invalid [] wr s u)) ∧
          ∀ w clamped, u.store.writing = none → d.write (v :: vs) u.cfg = .stored w clamped →
            let st : Status := if clamped = true then .okClamped else .ok
            ∃ t, exec (.writeSetting wr) s = .next t ∧ t.store = { u.store with working := w } ∧
              t.assist = (answered 0x11 st [] wr s u).assist ∧
              (t.pins = u.pins ∧ t.monitor = u.monitor ∧ t.protection = u.protection ∧ t.budget = u.budget ∧
                t.supply.state = u.supply.state ∧ t.radio.link = u.radio.link ∧ t.radio.driver = u.radio.driver ∧
                t.retention.identity = u.retention.identity ∧ t.retention.lineCount = u.retention.lineCount) ∧
              (padded id (v :: vs) →
                (clamped = true ↔ nearestBytes u.retention.lineCount id (v :: vs) ≠ v :: vs) ∧
                  exec (.readSetting rd) t =
                    .next (answered 0x10 .ok (classGiven id (nearestBytes u.retention.lineCount id (v :: vs))) rd t
                      (taken true t))) ∧
              (id = 0x010B → clamped = true →
                logged u.now u.retention.log [record u .settingGuard [0x010B, v.toNat, 0]] t.retention.log) ∧
              let u' : State := { u with store := { u.store with working := w } }
              let leaves (z : State) : Prop := t = answered 0x11 st [] wr s z
              let k := u.interlock.conds
              let forgetting (p : Fin 8 → ChannelState → Bool) : State :=
                { u' with
                  lights := { u.lights with
                    chans := Eight.tabulate (fun i =>
                      let c := u.lights.chans.get i
                      if c.freeze = none ∧ p i c = true then { c with source := none } else c) } }
              let relights (y : State) : Prop := ∃ z, lightsTake y z ∧ leaves z
              (id / 256 ∈ [1, 2, 7, 8, 9] → id ≠ 0x010B ∨ clamped = false → leaves u') ∧
                (id = 0x0303 → leaves (restartIdle u')) ∧ (id / 256 = 3 → id ≠ 0x0303 → leaves u') ∧
                (∀ n : Fin 4, id = 0x0412 + n.val →
                  leaves { u' with radio := { u.radio with gestures := u.radio.gestures.set n .clear } }) ∧
                (id / 256 = 4 → id < 0x0412 ∨ 0x0415 < id → leaves u') ∧
                (id = 0x0500 → t.still = (answered 0x11 st [] wr s (judgeTurns (setCommands u'))).still) ∧
                (id / 256 = 5 → id ≠ 0x0500 → leaves u') ∧
                (id / 256 = 6 → id < 0x0608 → leaves (reevaluate k u')) ∧
                (id = 0x0608 → leaves (reevaluate { k with latchA := w.interlock.latchA.judge k false } u')) ∧
                (id = 0x0609 → leaves (reevaluate { k with latchB := w.interlock.latchB.judge k false } u')) ∧
                (∀ n : Fin 8, id = 0x0A00 + n.val → relights (forgetting (fun i _ => i == n))) ∧
                (∀ n : Fin 8, 2 ≤ n.val → id = 0x0A06 + n.val →
                  let y := forgetting (fun _ c => !c.blinks && c.pattern == n)
                  relights (if n = 2 ∧ u.lights.blinker.isSome = true then blinkerBegin 0 y else y)) ∧
                (id = 0x0A12 → relights (forgetting (fun _ c => c.source == some .locate))) ∧
                (0x0A0E ≤ id → id ≤ 0x0A14 → id ≠ 0x0A12 → relights u') ∧
                (id / 256 = 11 → leaves { u' with alert := alertOf w.alertMask u.retention.log })

/-- COMMIT (R209) takes the working copy as the image and begins its 60 ms write, unless one is writing (BUSY) or the backup cell is
low (LOW_RESERVE); RESTORE_DEFAULTS (R211) puts the factory values in the working copy alone, and each block takes them as writes:
the idle timer restarts with the factory park_idle_min (R65); every gesture entry is CLEAR (R87); the commands are formed with the
factory blend_limit (R92); the factory latches, which have no term, are judged from clear and the factory gates evaluated (R126);
every channel takes its source as if it had none, a blinker that runs begins P2 again, the demands are formed anew (R185, R186,
R192, R197); ALERT is judged (R201). That the commands come before the gates, and WINCH_MOVING before STEER_SETTLED, are log entries
50 and 55 (DESIGN CHOICE). CLEAR_CAUSES (R54) clears the three flags. R211 takes each value as a write of it, and R165 keeps a write
of max_payout from going below the line count: that RESTORE_DEFAULTS stores the greater of 8,000 and the count is log entry 22
(DEDUCED). -/
def Obligations.CommitRestoreAndClearCauses : Prop :=
  ∀ (r : Request) (s : State), s.powered = true → r.params = [] →
    let u := taken true s
    (u.store.writing ≠ none →
        exec (.commit r) s = .next (answered 0x12 .busy [] r s u) ∧
          exec (.restoreDefaults r) s = .next (answered 0x13 .busy [] r s u)) ∧
      (u.store.writing = none → u.supply.backupReady = false →
        exec (.commit r) s = .next (answered 0x12 .lowReserve [] r s u)) ∧
      (u.store.writing = none → u.supply.backupReady = true →
        exec (.commit r) s =
          .next (answered 0x12 .ok [] r s
            { u with store := { u.store with writing := some (u.cfg, timerAt u.now 60), commit := .writing } })) ∧
      (u.store.writing = none →
        ∃ t, exec (.restoreDefaults r) s = .next t ∧
          t.store = { u.store with working := { factorySettings with
            winch := { factorySettings.winch with maxPayout := Nat.max 8000 u.retention.lineCount } } } ∧
          (∀ i, t.radio.gestures.get i = .clear) ∧ t.assist = (answered 0x13 .ok [] r s u).assist ∧
          t.protection = u.protection ∧ t.monitor = u.monitor ∧ t.budget = u.budget ∧ t.pins = u.pins ∧
          t.retention.identity = u.retention.identity ∧ t.retention.lineCount = u.retention.lineCount ∧
          t.supply.idle = (if u.supply.state = .active then some (timerAt u.now (10 * 60000)) else none) ∧
          t.authority.commands = formCommands t ∧
          (t.authority.neutral = true ↔ t.authority.commands.throttle.natAbs ≤ u.radio.bands.throttle) ∧
          t.interlock = derive factoryInterlock t.interlock.conds ∧ t.interlock.conds.throttleNeutral = t.authority.neutral ∧
          t.interlock.conds.latchA = false ∧ t.interlock.conds.latchB = false ∧
          t.alert = alertOf factoryAlertMask t.retention.log ∧
          let x := recompute (restartIdle
            { u with
              store := { u.store with working := t.cfg }
              radio := { u.radio with gestures := ⟨.clear, .clear, .clear, .clear⟩ } })
          let y := reevaluate { x.interlock.conds with latchA := false, latchB := false } x
          let y' : State :=
            { y with
              lights := { y.lights with
                chans := y.lights.chans.map
                  (fun c => if c.freeze = none ∧ c.blinks = false then { c with source := none } else c) } }
          ∃ z, lightsTake (if y.lights.blinker.isSome = true then blinkerBegin 0 y' else y') z ∧
            t = answered 0x13 .ok [] r s { z with alert := alertOf factoryAlertMask z.retention.log }) ∧
      exec (.clearCauses r) s =
        .next (answered 0x14 .ok [] r s
          { u with retention := { u.retention with flags := { cold := false, pack := false, restart := false } } })

/-- The end of a commit's write (R209): the image is in the store, the outcome is DONE or FAILED by the read-back, COMMIT_END is
logged with 0 for DONE and 1 for FAILED (R212; log entry 21, DEDUCED), and nothing else changes. An attach that waited for the end
is taken then (R210): the pack start or cold start it makes (R50, R51) finds the write in the store, and loads it where it read back
well. What a start loads beside the line count is log entry 22, that a waiting attach keeps its figures log entry 19, used_mAh at a
start log entry 17 (all DEDUCED), and the protection mode and the fields without a start value of their own log entries 36 and 9
(DESIGN CHOICE). That the command before the 60 ms have passed, or with none writing, is no event is the
model's choice (log entry 3). -/
def Obligations.CommitEndsAfterItsWrite : Prop :=
  ∀ (ok : Bool) (s : State),
    (s.store.writing = none → exec (.commitEnd ok) s = .next s) ∧
      ∀ image t0, s.store.writing = some (image, t0) →
        let written : State :=
          { s with
            store := { s.store with
              image := image, checkOk := ok, commit := if ok = true then .done else .failed, writing := none }
            retention := { s.retention with
              log := s.retention.log.enter (record s .commitEnd [if ok = true then 0 else 1]) } }
        (elapsed s.now t0.start < t0.dur → exec (.commitEnd ok) s = .next s) ∧
          (∀ rail backup, s.supply.attachWaiting = some (rail, backup) → t0.dur ≤ elapsed s.now t0.start →
            (s.retention.valid = true → 2000 ≤ backup →
                ∃ t, exec (.commitEnd ok) s = .next t ∧ startedBy .packStart written t ∧
                  (ok = true → t.cfg = guarded s.retention.lineCount image)) ∧
              (s.retention.valid = false ∨ backup < 2000 →
                ∃ t, exec (.commitEnd ok) s = .next t ∧
                  startedBy .coldStart { written with retention := clearedRetention } t ∧
                  (ok = true → t.cfg = guarded 0 image))) ∧
          (t0.dur ≤ elapsed s.now t0.start → s.supply.attachWaiting = none →
            ∃ t, exec (.commitEnd ok) s = .next t ∧
              t.store = written.store ∧ t.retention = written.retention ∧
              { t with store := s.store, retention := s.retention, alert := s.alert } = s)

/-! ## Starts, removal, the backup cell and the servo rail (chapter 3) -/

/-- An attach in RETAIN (R50): a pack start with the contents valid and the backup cell at or above the retention minimum; a
cold start otherwise, which first clears the Retention Domain and marks it valid (R51). A rail below the attach level, or not
above the backup cell, attaches nothing; an attach while a commit writes waits for its end (R210). The START response with the cause
of the start stands in the slot (R204). That a start loads max_payout not below the line count is log entry 22 (DEDUCED), that a
waiting attach keeps its figures log entry 19 (DEDUCED), and that a start begins in mode ACTIVE log entry 36 (DESIGN CHOICE). What a
start gives the fields for which no rule has a start value is log entry 9 (DESIGN CHOICE), and used_mAh at a start log entry 17
(DEDUCED). -/
def Obligations.AttachStartsThePart : Prop :=
  ∀ (rail backup : Nat) (s : State), s.supply.state = .retain →
    (rail < 2300 ∨ rail ≤ backup → exec (.packAttach rail backup) s = .next s) ∧
      (2300 ≤ rail → backup < rail →
        (s.store.writing ≠ none →
            exec (.packAttach rail backup) s =
              .next { s with supply := { s.supply with attachWaiting := some (rail, backup) } }) ∧
          (s.store.writing = none → s.retention.valid = true → 2000 ≤ backup →
            ∃ t, exec (.packAttach rail backup) s = .next t ∧ startedBy .packStart s t) ∧
          (s.store.writing = none → s.retention.valid = false ∨ backup < 2000 →
            ∃ t, exec (.packAttach rail backup) s = .next t ∧
              startedBy .coldStart { s with retention := clearedRetention } t))

/-- RESTART (R53): BUSY while a commit writes; otherwise a restart, with the disconnect voltage of the identity written from the
last complete set when it is taken in ACTIVE, and the START response in the slot (R204). A parked part is then ACTIVE (R67): that
the disconnect voltage is written for it too is log entry 16 (DEDUCED). That a start loads max_payout not below the line count is
log entry 22 (DEDUCED), and that it begins in mode ACTIVE log entry 36 (DESIGN CHOICE). What it gives the fields for which no rule has
a start value is log entry 9 (DESIGN CHOICE), and used_mAh at a start log entry 17 (DEDUCED). -/
def Obligations.RestartRequest : Prop :=
  ∀ (r : Request) (s : State), s.powered = true → r.params = [] →
    let u := taken true s
    (u.store.writing ≠ none → exec (.restart r) s = .next (answered 0x15 .busy [] r s u)) ∧
      (u.store.writing = none →
        ∃ t, exec (.restart r) s = .next t ∧ t.assist.slot = [0x00, 0x00, 0x01, 0x02] ∧ t.assist.window = none ∧
          t.assist.shifted = shiftOut (clockedBytes r) s.assist.slot ∧
          startedBy .restartReq
            (if u.supply.state = .active then
              { u with
                retention := { u.retention with
                  identity := u.retention.identity.map (fun i => { i with disconnect := some u.monitor.latest.vComp }) } }
             else u) t)

/-- A removal (R61): RETAIN; PACK_REMOVED with the state left and the disconnect voltage, which is written from the last complete
set in ACTIVE and PARK and left in QUALIFY; nothing is driven; a commit that writes goes on. That a cell absent or below the
retention minimum at the removal loses the contents in the same event, and cuts the commit short, is log entry 38 (DEDUCED); that a
write cut short leaves the former image in the store, its check failing (R210), is log entry 32 (DEDUCED). A rail
at or above the greater of the backup cell and the switchover level removes nothing (R50). In RETAIN the contents are lost when the
backup cell falls below the retention minimum, and a cell fitted then powers them invalid; nothing is logged (R56). While a pack is
present neither happens. -/
def Obligations.RemovalAndLossOfRetention : Prop :=
  (∀ (rail backup : Nat) (s : State), s.powered = true →
      (2200 ≤ rail → backup ≤ rail → exec (.packRemoved rail backup) s = .next s) ∧
        (rail < 2200 ∨ rail < backup →
          ∃ t, exec (.packRemoved rail backup) s = .next t ∧ t.supply.state = .retain ∧
            t.retention = { s.retention with
              valid := s.retention.valid && decide (2000 ≤ backup)
              log := s.retention.log.enter
                (record s .packRemoved
                  [s.supply.state.code, if s.supply.state = .qualify then 0 else s.monitor.latest.vComp])
              identity :=
                if s.supply.state = .qualify then s.retention.identity
                else s.retention.identity.map (fun i => { i with disconnect := some s.monitor.latest.vComp }) } ∧
            t.srvEn = false ∧ t.escPin = none ∧ t.alertPin = none ∧ t.bridge = .unpowered ∧ t.steering.pulse = none ∧
            (∀ i, (t.lights.chans.get i).level = 0) ∧ t.winch.queue = [] ∧ (∀ f, (t.authority.entries.get f).claim = none) ∧
            t.store.image = s.store.image ∧ t.pins = s.pins ∧
            (2000 ≤ backup → t.store.writing = s.store.writing ∧ t.store.checkOk = s.store.checkOk) ∧
            (backup < 2000 →
              t.store.writing = none ∧ (s.store.writing ≠ none → t.store.checkOk = false) ∧
                (s.store.writing = none → t.store.checkOk = s.store.checkOk)))) ∧
    ∀ (mv : Nat) (s : State),
      (s.powered = true → exec (.retentionLoss mv) s = .next s ∧ exec .backupCellFitted s = .next s) ∧
        (s.supply.state = .retain → 2000 ≤ mv → exec (.retentionLoss mv) s = .next s) ∧
        (s.supply.state = .retain → s.supply.attachWaiting = none →
          (s.retention.valid = true → mv < 2000 →
              ∃ t, exec (.retentionLoss mv) s = .next t ∧ t.retention = { s.retention with valid := false } ∧
                t.supply = s.supply ∧ t.store.writing = none ∧ (s.store.writing ≠ none → t.store.checkOk = false) ∧
                (s.store.writing = none → t.store = s.store) ∧
                { t with retention := s.retention, store := s.store } = s) ∧
            ∃ t, exec .backupCellFitted s = .next t ∧ t.retention = { s.retention with valid := false } ∧
              t.supply = s.supply ∧ { t with retention := s.retention, store := s.store } = s)

/-- A measurement of the backup cell (R62): BACKUP_READY from 2,600 mV, the trickle charge below 3,000 mV while it is switched
on, and BACKUP_LOW at the first fall after a pass. -/
def Obligations.BackupMeasurementSetsReady : Prop :=
  ∀ (mv : Nat) (s : State), s.powered = true → s.supply.backupClock.due s.now = true →
    ∃ t, exec (.backupMeasurement mv) s = .next t ∧ t.supply.backupReady = decide (2600 ≤ mv) ∧
      t.supply.backupMv = some mv ∧ t.supply.trickle = (s.cfg.supply.trickle && decide (mv < 3000)) ∧
      (s.supply.backupReady = true → mv < 2600 → s.supply.backupArmed = true →
        t.retention.log = s.retention.log.enter (record s .backupLow [mv]) ∧ t.supply.backupArmed = false) ∧
      (s.supply.backupReady = false ∨ 2600 ≤ mv ∨ s.supply.backupArmed = false → t.retention = s.retention) ∧
      { t with
        supply := { t.supply with
          backupReady := s.supply.backupReady, backupMv := s.supply.backupMv, trickle := s.supply.trickle,
          backupArmed := s.supply.backupArmed, backupClock := s.supply.backupClock }
        retention := s.retention, alert := s.alert } = s

/-- The servo rail (R63): in WAIT and FAULT SRV_PG true gives GOOD and cancels the timer; in GOOD its fall gives FAULT with
RAIL_FAULT LOST; in OFF it is not watched; the wait timer's expiry gives FAULT with RAIL_FAULT NO_POWER_GOOD. The codes
NO_POWER_GOOD 0 and LOST 1, by their order in the text (R212), are log entry 21 (DEDUCED). -/
def Obligations.ServoRailFollowsPowerGood : Prop :=
  ∀ (good : Bool) (s : State),
    (∃ t, exec (.srvPgChange good) s = .next t ∧ t.pins = { s.pins with srvPg := good } ∧
        t.supply.rail =
          (match s.supply.rail, good with
           | .off, _ => .off
           | .wait, true | .fault, true | .good, true => .good
           | .wait, false => .wait
           | .fault, false | .good, false => .fault) ∧
        (s.supply.rail = .wait → good = true → t.supply.railWait = none) ∧
        t.retention.log =
          (if s.supply.rail = .good ∧ good = false then s.retention.log.enter (record s .railFault [1])
           else s.retention.log) ∧
        { t with
          pins := s.pins, alert := s.alert, retention := s.retention
          supply := { t.supply with rail := s.supply.rail, railWait := s.supply.railWait } } = s) ∧
      (s.supply.rail = .wait → dueAt s.supply.railWait s.now = true →
        ∃ t, exec .railWaitExpiry s = .next t ∧ t.supply.rail = .fault ∧ t.supply.railWait = none ∧
          t.retention.log = s.retention.log.enter (record s .railFault [0]) ∧
          { t with
            alert := s.alert, retention := s.retention
            supply := { t.supply with rail := s.supply.rail, railWait := s.supply.railWait } } = s)

/-! ## Sample sets, levels and trips (chapters 1 to 3) -/

/-- A set in QUALIFY (R57). Outside the band, or spreading the window beyond 100 mV, it empties the window, and the first failure of
each reason is logged with the set's V_meas. Within the band it opens the window or joins it, and a set that joins at least 500 ms
after the window's first time passes: ACTIVE, the servo rail on (R60), and PACK_TAKEN first, SAME or NEW by R59, with the count of
R58. With a fixed cell_count the count is the setting, and a set above count × 4,350 mV fails HIGH in place of passing (R58). After a
restart that kept an identity the count is not decided and the identity is SAME without tests; that a fixed count's failure is not
judged then is log entry 11. The codes SAME 0 and NEW 1 of PACK_TAKEN (R212) are log entry 21 (DEDUCED), and that a write of r_init or
cell_count in QUALIFY counts at once log entries 47 and 48 (DESIGN CHOICE). -/
def Obligations.QualificationIsJudged : Prop :=
  ∀ (vMeas iMeas iServo iWinch : Int) (s : State), s.supply.state = .qualify → s.monitor.clock.due s.now = true →
    let v := taken16 vMeas
    let spread (w : QualWindow) : Nat := Nat.max w.high v - Nat.min w.low v
    let count := s.cfg.supply.cellCount.getD (cellsAuto v)
    let decides : Prop := s.supply.afterRestart = false ∨ s.retention.identity = none
    let tooHigh : Prop := ∃ n, s.cfg.supply.cellCount = some n ∧ n * 4350 < v
    let fails (reason : QualifyReason) : Prop :=
      ∃ t, exec (.sampleSet vMeas iMeas iServo iWinch) s = .next t ∧ t.supply.state = .qualify ∧ t.supply.window = none ∧
        t.supply.marks.get reason = true ∧
        t.retention =
          (if s.supply.marks.get reason = true then s.retention
           else { s.retention with log := s.retention.log.enter (record s .qualifyFail [reason.code, v]) }) ∧
        qualifying s t
    let stays (w : QualWindow) : Prop :=
      ∃ t, exec (.sampleSet vMeas iMeas iServo iWinch) s = .next t ∧ t.supply = { s.supply with window := some w } ∧
        t.retention = s.retention ∧ qualifying s t
    let passes : Prop :=
      ∃ t i, exec (.sampleSet vMeas iMeas iServo iWinch) s = .next t ∧ t.supply.state = .active ∧
        t.supply.window = none ∧ t.retention.identity = some i ∧
        t.monitor.latest.vComp = v + taken16 iMeas * s.estimate / 1000 ∧
        t.supply.rail = (if s.pins.srvPg = true then .good else .wait) ∧
        t.protection.effective =
          Level.worst (Level.worst i.level s.protection.energy) (tripLevel i.tripLimp.isSome) ∧
        (t.radio = s.radio ∧ t.assist = s.assist ∧ t.store = s.store ∧ t.pins = s.pins ∧
          t.retention.lineCount = s.retention.lineCount ∧ t.retention.flags = s.retention.flags) ∧
        let taken (kept : Nat) (x : Identity) : Prop :=
          i = x ∧ logged s.now s.retention.log [record s .packTaken [kept, i.cells, t.monitor.latest.vComp]] t.retention.log
        (s.retention.identity = none → taken 1 (newIdentity count s.cfg.pack.rInit)) ∧
          (∀ old, s.retention.identity = some old → s.supply.afterRestart = true → taken 0 (endOverdue s.now old)) ∧
          (∀ old d, s.retention.identity = some old → s.supply.afterRestart = false → old.disconnect = some d →
            let far := old.cells ≠ count ∨
              s.cfg.supply.samePackMv * old.cells < ((t.monitor.latest.vComp : Int) - d).natAbs
            (¬far → taken 0 (endOverdue s.now old)) ∧ (far → taken 1 (newIdentity count s.cfg.pack.rInit)))
    (v < 2500 → fails .low) ∧ (17400 < v → fails .high) ∧
      (2500 ≤ v → v ≤ 17400 →
        (s.supply.window = none → stays { first := s.now, low := v, high := v }) ∧
          ∀ w, s.supply.window = some w →
            (100 < spread w → fails .unstable) ∧
              (spread w ≤ 100 →
                (elapsed s.now w.first < 500 → stays { w with low := Nat.min w.low v, high := Nat.max w.high v }) ∧
                  (500 ≤ elapsed s.now w.first →
                    (decides → tooHigh → fails .high) ∧ (¬(decides ∧ tooHigh) → passes))))

/-- A set in ACTIVE or PARK (R3, R4, R6, R8 to R10): the readings as taken, the charge accumulated over the period in force,
used_mAh and remaining_pct, which has no value at capacity 0 and is 0 in place of a negative result, the compensated and the cell
voltage with the estimate as this set leaves it, the list of servo currents, the set as the previous one of the next. The trip run
opens, continues or closes, and the set finds a trip or none (R11). The Protection Controller judges the set: the mode that takes
effect (R23), the three falling timers (R14), the rising timer (R15), the hard floor (R16), the energy level (R18), and the
effective level as the worst of its components with LEVEL_CHANGE and its cause (R19, R20). The cause of an improvement that BENCH
makes through the energy level alone is log entry 37 (DESIGN CHOICE), and that a start begins in mode ACTIVE log entry 36 (DESIGN
CHOICE). An allotment of this very set is published under the level the set leaves (R27): its demands (R31 to R35), its grants
within the headroom (R30, R36 to R39) and its ratios, with the trip condition after the set. That these demands are those after the
same set's stall and tension judgement is log entry 10 (DEDUCED). -/
def Obligations.RunningSetUpdatesThePackRecord : Prop :=
  ∀ (vMeas iMeas iServo iWinch : Int) (i : Identity) (s : State),
    s.supply.state = .active ∨ s.supply.state = .park → s.monitor.clock.due s.now = true → s.retention.identity = some i →
    ∃ t j, exec (.sampleSet vMeas iMeas iServo iWinch) s = .next t ∧ t.retention.identity = some j ∧
      j.r = ((s.monitor.prev.bind (fun p => estimatorStep p (taken16 vMeas) (taken16 iMeas))).map
              (estimateToward i.r)).getD i.r ∧
      j.energy = Nat.min 281474976710655 (i.energy + taken16 iMeas * (if s.supply.state = .park then 100 else 2)) ∧
      j.cells = i.cells ∧ j.disconnect = i.disconnect ∧ j.limpUsed = i.limpUsed ∧
      t.monitor.latest.vMeas = taken16 vMeas ∧ t.monitor.latest.iMeas = taken16 iMeas ∧
      t.monitor.latest.iServo = taken16 iServo ∧ t.monitor.latest.iWinch = taken16 iWinch ∧ t.monitor.latest.time = s.now ∧
      t.monitor.latest.vComp = taken16 vMeas + taken16 iMeas * j.r / 1000 ∧
      t.monitor.latest.vCell = t.monitor.latest.vComp / i.cells ∧
      t.monitor.prev = some (taken16 vMeas, taken16 iMeas) ∧
      t.monitor.servo = (if s.monitor.servo.length < 8 then s.monitor.servo else s.monitor.servo.drop 1) ++ [taken16 iServo] ∧
      t.monitor.usedMah = j.energy / 3600000 ∧
      (s.cfg.pack.capacityMah = 0 → t.monitor.remainingPct = none) ∧
      (s.cfg.pack.capacityMah ≠ 0 →
        t.monitor.remainingPct = some (100 - t.monitor.usedMah * 100 / s.cfg.pack.capacityMah)) ∧
      t.budget.time = s.now ∧ t.budget.supply = s.supply.state ∧ t.budget.level = t.protection.effective ∧
      t.budget.vComp = t.monitor.latest.vComp ∧ t.budget.vFloor = vFloorOf s.cfg.budget i.cells t.protection.effective ∧
      t.budget.headroom = headroomOf s.cfg.budget.ceilingMa t.budget.vComp t.budget.vFloor j.r ∧
      (let d := demandsOf t s.supply.state t.protection.effective
       t.budget.tripFixed = t.tripActive ∧
         t.budget.classes = sharesOf d (grantsOf d s.cfg.budget.reserve t.tripActive t.budget.headroom) t.tripActive) ∧
      levelsOnSet (taken16 vMeas) i j s t ∧ tripOnSet (taken16 iMeas) i j s t ∧
      t.supply.state = s.supply.state ∧ t.radio = s.radio ∧ t.assist = s.assist ∧ t.store = s.store ∧ t.pins = s.pins ∧
      t.authority.commands = s.authority.commands ∧ t.retention.lineCount = s.retention.lineCount

/-- A trip (R11 to R13): found on a set at or above trip_ma at least trip_ms after the run began, it starts the trip hold,
joins the history of at most three, logs TRIP with the number then held before any other record, and fixes the DRIVE and WINCH
grants of the set's own allotment at 0 (R38). -/
def Obligations.TripIsFound : Prop :=
  ∀ (vMeas iMeas iServo iWinch : Int) (i : Identity) (began : Time) (s : State),
    s.supply.state = .active ∨ s.supply.state = .park → s.monitor.clock.due s.now = true → s.retention.identity = some i →
    s.monitor.tripRun = some began → s.cfg.pack.tripMa ≤ taken16 iMeas → s.cfg.pack.tripMs ≤ elapsed s.now began →
    i.trips.length ≤ 3 →
    ∃ t j, exec (.sampleSet vMeas iMeas iServo iWinch) s = .next t ∧ t.retention.identity = some j ∧
      t.monitor.tripHold = some (timerAt s.now 1000) ∧ t.monitor.tripRun = some s.now ∧ t.tripActive = true ∧
      t.interlock.conds.tripActive = true ∧
      j.trips = (if i.trips.length < 3 then i.trips else i.trips.drop 1) ++ [s.now] ∧
      (tripsCrowded j.trips = true → j.tripLimp = some (timerAt s.now 30000)) ∧
      (tripsCrowded j.trips = false → j.tripLimp = i.tripLimp) ∧
      logged s.now s.retention.log [record s .trip [taken16 iMeas, j.trips.length]] t.retention.log ∧
      t.budget.tripFixed = true ∧ t.budget.classes.drive.grant = 0 ∧ t.budget.classes.winch.grant = 0

/-- The timers behind a condition or a level, at their times: the trip hold (R12) and the activity window (R206) end their conditions;
trip-LIMP (R13) ends; a limp-home period (R22) ends in CUTOFF again, where the winch and the drive stop (R150, R162) and the locate
latch is set (R194). -/
def Obligations.ConditionAndLevelTimersEnd : Prop :=
  ∀ s : State,
    (dueAt s.monitor.tripHold s.now = true →
        ∃ t, exec .tripHoldExpiry s = .next t ∧ t.tripActive = false ∧ t.interlock.conds.tripActive = false ∧
          t.still = { s with monitor := { s.monitor with tripHold := none } }.still) ∧
      (dueAt s.assist.window s.now = true →
        ∃ t, exec .assistWindowExpiry s = .next t ∧ t.assistActive = false ∧ t.interlock.conds.assistActive = false ∧
          t.still = { s with assist := { s.assist with window := none } }.still) ∧
      ∀ i, s.retention.identity = some i → s.supply.state = .active ∨ s.supply.state = .park →
        (dueAt i.tripLimp s.now = true → i.level ≠ .cutoff → s.protection.energy ≠ .cutoff →
            ∃ t, exec .tripLimpExpiry s = .next t ∧ t.retention.identity = some { i with tripLimp := none } ∧
              t.protection = { s.protection with effective := Level.worst i.level s.protection.energy } ∧
              t.still =
                { s with
                  retention := { s.retention with identity := some { i with tripLimp := none } }
                  protection := t.protection }.still) ∧
          (dueAt i.limpPeriod s.now = true →
            ∃ t, exec .limpHomePeriodExpiry s = .next t ∧
              t.retention.identity = some { i with level := .cutoff, limpPeriod := none } ∧
              t.protection = { s.protection with effective := .cutoff } ∧
              (t.radio = s.radio ∧ t.monitor = s.monitor ∧ t.budget = s.budget ∧ t.assist = s.assist ∧ t.store = s.store ∧
                t.pins = s.pins ∧ t.supply.state = s.supply.state ∧ t.authority.commands = s.authority.commands) ∧
              (s.protection.effective ≠ .cutoff →
                t.winch.st.moves = false ∧ t.winch.queue = [] ∧ t.drive.dEff = 0 ∧ t.lights.locate = true ∧
                  logged s.now s.retention.log
                    [record s .levelChange [s.protection.effective.code, Level.cutoff.code, LevelCause.limpHome.code]]
                    t.retention.log))

/-! ## The radio link and the claims in time (chapters 4 and 5) -/

/-- A frame with a wrong marker, a wrong length, a framing error, an overlap with a reply or a wrong check byte is dropped whole
(R71). A valid one (R72 to R74, R76, R77, R80, R82) becomes the last valid frame; the link state moves by R73's table and a change
is logged first; the silence timers run in REARM and UP and not in LOST; the driver values are those of R80; TELEM_REQ opens the
reply slot; sticks out of their bands or a moved switch restart the idle timer (R65). A gesture entry is judged on the frame or left
(R84, R87), and one that fires logs GESTURE and does what R88 gives (entry i fires alone where the others are disabled; in PARK it
first wakes the part unless its action is PARK). Where no entry is enabled the frame alone decides whether a parked part wakes (R67,
R68). The judging table itself is that of R85 and R86. The actions are those of limp-home (R21), WINCH_CLEAR (R168), WINCH_FREE
(R169), the hazard (R187), locate (R195), PARK (R66) and the mode (R88). That an entry which is not judged stands as it was is log
entry 33 (DEDUCED), and that PARK leaves the neutral of trim_d as it stands then (R150) log entry 30 (DEDUCED). -/
def Obligations.FramesAreDroppedOrTaken : Prop :=
  ∀ (bytes : List Byte) (rx : Reception) (s : State), s.powered = true →
    (byteAt bytes 0 ≠ 0xA7 ∨ bytes.length ≠ 19 ∨ rx ≠ .clean ∨ xorAll ((bytes.drop 1).take 17) ≠ byteAt bytes 18 →
        exec (.radioFrame bytes rx) s = .next s) ∧
      (wholeFrame bytes → rx = .clean →
        let fr := frameOf s.now bytes
        let w := s.cfg.radio
        let new := linkOn fr s
        ∃ t, exec (.radioFrame bytes rx) s = .next t ∧ t.radio.link = new ∧ t.radio.last = some fr ∧
          t.radio.bands = w.bands ∧ t.radio.slot = (if fr.telemReq = true then some fr.count else s.radio.slot) ∧
          (new ≠ s.radio.link →
            logged s.now s.retention.log [record s .linkState [s.radio.link.code, new.code, fr.quality]] t.retention.log) ∧
          (new = .rearm ∨ new = .up →
            t.radio.hold = some (timerAt s.now 60) ∧ t.radio.failsafe = some (timerAt s.now w.failsafeMs) ∧
              t.radio.driver.throttle = (if new = .up then functionValue w fr .throttle else 0) ∧
              t.radio.driver.steer = functionValue w fr .steer ∧ t.radio.driver.winch = functionValue w fr .winch ∧
              t.radio.driver.modePos = switchOnFrame w fr .steerMode s.radio.driver.modePos ∧
              t.radio.driver.lightsPos = switchOnFrame w fr .lights s.radio.driver.lightsPos ∧
              t.radio.driver.scene = sceneOf t.radio.driver.lightsPos) ∧
          (new = .lost → s.radio.link ≠ .lost →
            t.radio.hold = none ∧ t.radio.failsafe = none ∧ t.radio.driver.throttle = 0 ∧ t.radio.driver.winch = 0 ∧
              t.radio.driver.steer = (if w.failsafeCentre = true then 0 else s.radio.driver.steer)) ∧
          (new = .lost → s.radio.link = .lost →
            t.radio.driver.throttle = s.radio.driver.throttle ∧ t.radio.driver.steer = s.radio.driver.steer ∧
              t.radio.driver.winch = s.radio.driver.winch) ∧
          (new ≠ .up → t.authority.entries.throttle.claim = none ∧ t.authority.entries.winch.claim = none) ∧
          t.store = s.store ∧ t.assist = s.assist ∧ t.budget = s.budget ∧ t.pins = s.pins ∧
          t.retention.lineCount = s.retention.lineCount ∧ t.retention.flags = s.retention.flags ∧ t.now = s.now ∧
          ((∀ i, (w.gestures.get i).enabled = false) →
            t.protection = s.protection ∧ t.retention.identity = s.retention.identity ∧
              t.radio.override =
                (if (new = .rearm ∨ new = .up) ∧ t.radio.driver.modePos ≠ s.radio.driver.modePos then none
                 else s.radio.override) ∧
              (new = .rearm ∨ new = .up →
                t.radio.driver.mode = t.radio.override.getD (modeOf w t.radio.driver.modePos)) ∧
              (s.supply.state ≠ .park → t.monitor = s.monitor ∧ t.supply.state = s.supply.state) ∧
              (s.supply.state = .park →
                let wakes : Prop :=
                  (new = .rearm ∨ new = .up) ∧
                    (sticksOut t ∨ t.radio.driver.modePos ≠ s.supply.parkModePos ∨
                      t.radio.driver.lightsPos ≠ s.supply.parkLightsPos)
                (wakes → wokenBy .frame s t) ∧
                  (¬wakes → t.supply.state = .park ∧ t.monitor = s.monitor ∧ t.supply.rail = s.supply.rail))) ∧
          (s.supply.state = .active → t.supply.state = .active →
            sticksOut t ∨ t.radio.driver.modePos ≠ s.radio.driver.modePos ∨
              t.radio.driver.lightsPos ≠ s.radio.driver.lightsPos →
            t.supply.idle = (restartIdle s).supply.idle) ∧
          ∀ i, let e := w.gestures.get i
            let before := s.radio.gestures.get i
            let judged := judgeEntry s.now e fr before
            (gestureJudged new e s →
                t.radio.gestures.get i = judged.1 ∧
                  (judged.2 = true →
                    logs s.now s.retention.log (record s .gesture [i.val, e.action.code]) t.retention.log ∧
                      ((∀ k, k ≠ i → (w.gestures.get k).enabled = false) →
                        ∃ v, t = openSlot fr (fireGesture i e.action v) ∧ v.now = s.now ∧ v.radio.link = new ∧
                          v.protection = s.protection ∧ v.retention.identity = s.retention.identity ∧ v.cfg = s.cfg ∧
                          v.lights.locate = s.lights.locate ∧ v.lights.hazardGesture = s.lights.hazardGesture ∧
                          (s.supply.state = .active → v.supply.state = .active) ∧
                          v.authority.commands = formCommands v))) ∧
              (¬gestureJudged new e s →
                t.radio.gestures.get i = if new = .lost ∧ s.radio.link ≠ .lost then before.dropout else before)) ∧
      (∀ (e : GestureEntry) (fr : Frame) (now t0 f : Time),
        let holds : Prop := ∀ x ∈ e.terms, x.holds fr = true
        let allFalse : Prop := ∀ x ∈ e.terms, x.holds fr = false
        let judged (st : GestureState) : GestureState × Bool := judgeEntry now e fr st
        let fires : Prop := e.holdMs ≤ elapsed now t0
        let short : Prop := elapsed now f < 40
        (judged .clear = if holds then (.timing now none, false) else (.clear, false)) ∧
          (judged (.timing t0 none) =
            if holds then (if fires then (.fired none, true) else (.timing t0 none, false))
            else (.timing t0 (some now), false)) ∧
          (judged (.timing t0 (some f)) =
            if holds then
              (if short then (if fires then (.fired none, true) else (.timing t0 none, false)) else (.timing now none, false))
            else if short then (.timing t0 (some f), false) else (.clear, false)) ∧
          (judged (.fired none) = if allFalse then (.fired (some now), false) else (.fired none, false)) ∧
          (judged (.fired (some f)) =
            if allFalse then (if short then (.fired (some f), false) else (.clear, false)) else (.fired none, false))) ∧
      ∀ (i : Fin 4) (a : GestureAction) (v : State),
        (v.supply.state = .active → gestureActs i a v (fireGesture i a v)) ∧
          (v.supply.state = .park → a = .park → fireGesture i a v = enterLog .gesture [i.val, a.code] v) ∧
          (v.supply.state = .park → a ≠ .park →
            ∃ u, wokenBy .gesture v u ∧ u.radio = v.radio ∧ u.protection = v.protection ∧
              u.retention.identity = v.retention.identity ∧ u.lights.locate = v.lights.locate ∧
              logged v.now v.retention.log [record v .parkWake [1]] u.retention.log ∧
              gestureActs i a u (fireGesture i a u) ∧ fireGesture i a v = fireGesture i a u)

/-- The silence timers. The hold timer's expiry (R74, R80): UP becomes HOLDING, which freezes the driver values, drops what the
gestures have timed, ends the claims on THROTTLE and WINCH (R104) and makes LINK_UP false (R75); in any other link state nothing but
the timer changes. The failsafe timer's expiry in REARM, UP and HOLDING: LOST, with THROTTLE and WINCH at 0 and STEER at 0 or held;
both timers stop, LINK_LOST is true, the same claims end, and the link arming timer begins (R194). -/
def Obligations.SilenceTimersExpire : Prop :=
  ∀ s : State,
    (s.radio.link = .up → dueAt s.radio.hold s.now = true →
        ∃ t, exec .holdTimerExpiry s = .next t ∧ silencedBy s t ∧
          t.radio = { s.radio with
            link := .holding, hold := none, gestures := s.radio.gestures.map GestureState.dropout } ∧
          logged s.now s.retention.log [record s .linkState [2, 3, s.quality]] t.retention.log ∧
          t.interlock.conds.linkUp = false ∧ t.interlock.conds.linkLost = false) ∧
      (s.radio.link ≠ .up → dueAt s.radio.hold s.now = true →
        exec .holdTimerExpiry s = .next { s with radio := { s.radio with hold := none } }) ∧
      (s.radio.link = .rearm ∨ s.radio.link = .up ∨ s.radio.link = .holding → dueAt s.radio.failsafe s.now = true →
        ∃ t, exec .failsafeTimerExpiry s = .next t ∧ silencedBy s t ∧
          t.radio = { s.radio with
            link := .lost, hold := none, failsafe := none, gestures := s.radio.gestures.map GestureState.dropout
            driver := { s.radio.driver with
              throttle := 0, winch := 0
              steer := if s.cfg.radio.failsafeCentre = true then 0 else s.radio.driver.steer } } ∧
          logged s.now s.retention.log [record s .linkState [s.radio.link.code, 4, s.quality]] t.retention.log ∧
          t.interlock.conds.linkUp = false ∧ t.interlock.conds.linkLost = true ∧
          t.authority.commands.throttle = 0 ∧ t.authority.commands.winch = 0 ∧
          t.lights.linkArm = some (timerAt s.now 10000))

/-- The reply slot (R82, R83, section 12.4.2): with RL idle the nine bytes of the reply in turn are transmitted and the rotation
goes on; with RL busy the slot is dropped; without an open slot nothing happens. WINCH carries the tag of the running job (R156),
NOTICE the newest WARN or FAULT record (R203); the bytes of no tag and of no age are log entry 23 (DEDUCED). The ENERGY figures
after a pass that is NEW are log entry 54 (DESIGN CHOICE). -/
def Obligations.RepliesRotate : Prop :=
  ∀ s : State,
    (s.radio.slot = none → ∀ idle, exec (.telemetryReply idle) s = .next s) ∧
      ∀ n, s.radio.slot = some n → s.powered = true →
        exec (.telemetryReply false) s = .next { s with radio := { s.radio with slot := none } } ∧
          ∃ t body, exec (.telemetryReply true) s = .next t ∧
            t.radio = { s.radio with slot := none, reply := t.radio.reply, rotation := t.radio.rotation } ∧
            { t with radio := s.radio } = s ∧
            t.radio.reply = [0xA8, byteOf (n % 16 + 16 * s.radio.rotation.code)] ++ body ++
              [xorAll (byteOf (n % 16 + 16 * s.radio.rotation.code) :: body)] ∧
            body.length = 6 ∧
            (s.radio.rotation = .pack → t.radio.rotation = .energy ∧
              body = le16 s.monitor.latest.vMeas ++ le16 s.monitor.latest.iMeas ++
                [byteOf s.protection.effective.code, 0]) ∧
            (s.radio.rotation = .energy → t.radio.rotation = .winch ∧
              (s.monitor.usedMah ≤ 65535 → body = le16 s.monitor.usedMah ++
                [optByte s.monitor.remainingPct, byteOf (identityCells s.retention.identity), 0, 0])) ∧
            (s.radio.rotation = .winch → t.radio.rotation = .notice ∧
              (∀ r j rest, s.winch.running = some r → s.winch.queue = j :: rest →
                body = byteOf s.winch.st.code :: le16 s.retention.lineCount ++ [byteOf j.tag, 1, 0]) ∧
              (s.winch.running = none →
                body = byteOf s.winch.st.code :: le16 s.retention.lineCount ++ [0xFF, 0, 0])) ∧
            (s.radio.rotation = .notice → t.radio.rotation = .pack ∧
              (∀ r, noticeRecord s.retention.log = some r → body = byteOf r.kind.code :: le16 (ageSeconds s.now r) ++ [0, 0, 0]) ∧
              (noticeRecord s.retention.log = none → body = [0, 0xFF, 0xFF, 0, 0, 0]))

/-- The expiry of a claim (R97) returns the function to DRIVER, logs CLAIM_END with EXPIRED first and forms the commands
anew; on WINCH every job held is gone (R105, R176); a suspended expiry is none (R98). A lockout ends with the 200 ms of a
proportional function's neutral run, or with the end time of a switch function's (R103), and nothing else changes. That such an
expiry before its time is no event is the model's choice (log entry 3). On a valid frame (R92, R100 to R104): in UP the driver who
moves the stick beyond takeover_delta from the reference, or the switch, takes the function over, with CLAIM_END and a lockout that
begins (that a switch position other than the reference's takes over on every handing-over is log entry 29, DEDUCED); in any other
link state the claims on THROTTLE and WINCH end; the neutral run of a lockout opens, goes on or closes; the
commands are those the entries then give, and THROTTLE_NEUTRAL, for the Interlock Unit too, is true exactly while the THROTTLE command
is within the band of the frame (R93). -/
def Obligations.ClaimsExpireAndLockoutsEnd : Prop :=
  ∀ (f : Fn) (s : State),
    (∀ bytes, s.powered = true → wholeFrame bytes →
      ∃ t, exec (.radioFrame bytes .clean) s = .next t ∧ t.radio.link = linkOn (frameOf s.now bytes) s ∧
        t.authority.commands = formCommands t ∧
        (t.authority.neutral = true ↔ t.authority.commands.throttle.natAbs ≤ t.radio.bands.throttle) ∧
        t.interlock.conds.throttleNeutral = t.authority.neutral ∧ entryOnFrame (linkOn (frameOf s.now bytes) s) f s t) ∧
    (∀ c, (s.authority.entries.get f).claim = some c →
        (c.expiry = none → exec (.claimExpiry f) s = .next s) ∧
          (dueAt c.expiry s.now = true →
            let freed : State :=
              { s with
                authority := { s.authority with
                  entries := s.authority.entries.set f { s.authority.entries.get f with claim := none } } }
            ∃ t, exec (.claimExpiry f) s = .next t ∧ t.still = (judgeTurns (setCommands freed)).still ∧
              logged s.now s.retention.log [record s .claimEnd [fnCode f, c.kind.code, 0]] t.retention.log ∧
              (f = .winch → t.winch.queue = []))) ∧
      ∀ l, (s.authority.entries.get f).lockout = some l →
        let ended : State :=
          { s with
            authority := { s.authority with
              entries := s.authority.entries.set f { s.authority.entries.get f with lockout := none } } }
        (dueAt l.run s.now = true → exec (.lockoutNeutralRunExpiry f) s = .next ended) ∧
          (dueAt l.ends s.now = true → exec (.switchLockoutExpiry f) s = .next ended) ∧
          (dueAt l.run s.now = false → exec (.lockoutNeutralRunExpiry f) s = .next s) ∧
          (dueAt l.ends s.now = false → exec (.switchLockoutExpiry f) s = .next s)

/-! ## Steering and drive (chapters 7 and 8) -/

/-- A servo frame (R127 to R133): the ratio and the period are taken, the targets computed in the mode as it stands and by the state
of STEER_REAR, an emitting frame moves and emits the outputs, any other holds them and emits nothing. A transition completes at the
frame that finds both outputs settled (R139): MODE_APPLIED comes first and at no other frame, the transition timer stops, the state
is WAITING with a waiting mode and STEADY without one, and the park idle timer restarts (R65). STEER_SETTLED, for the Interlock Unit
too, is true exactly while both outputs are settled and no transition goes on (R134). What the frame leaves of the mode protocol is
said with no mode waiting, or where no gate or latch reads what the frame itself moves, since MODE_CHANGE opening at the same event
begins what waits (R140). Which mode is "the mode before" after a replacement is log entry 43 (DESIGN CHOICE). -/
def Obligations.SteerFrameMovesTheServos : Prop :=
  ∀ s : State, s.powered = true → s.steering.clock.due s.now = true →
    let w := s.cfg.steering
    let q := s.budget.classes.steer.ratio
    ∃ t, exec .steerFrame s = .next t ∧ t.still = { s with steering := t.steering }.still ∧
      t.steering.clock = s.steering.clock.fall w.framePeriodMs ∧ t.steering.q = q ∧ t.steering.settleUs = w.settleUs ∧
      t.steering.targetF = servoTarget w.front (frontCommand s.steering.mode s.authority.commands.steer) ∧
      (s.interlock.targets.steerRear = .opened ∨ s.interlock.targets.steerRear = .held ∧ s.steering.freeze ≠ none →
        t.steering.targetR =
          servoTarget w.rear (rearCommand s.steering.mode w.rearRatio s.authority.commands.steer)) ∧
      (s.interlock.targets.steerRear = .released ∨ s.interlock.targets.steerRear = .held ∧ s.steering.freeze = none →
        t.steering.targetR = clampI w.rear.endLow w.rear.endHigh (1500 + w.rear.trim)) ∧
      (s.supply.state = .active ∧ s.supply.rail = .good →
        t.steering.outF = slewToward w.front (slewEff w.front.slew q) s.steering.outF t.steering.targetF ∧
          (s.interlock.targets.steerRear ≠ .held ∨ s.steering.freeze = none →
            t.steering.outR = slewToward w.rear (slewEff w.rear.slew q) s.steering.outR t.steering.targetR) ∧
          (∀ v, s.interlock.targets.steerRear = .held → s.steering.freeze = some v →
            t.steering.outR = clampI w.rear.endLow w.rear.endHigh v) ∧
          t.steering.pulse = some (t.steering.outF, t.steering.outR)) ∧
      (¬(s.supply.state = .active ∧ s.supply.rail = .good) →
        t.steering.outF = s.steering.outF ∧ t.steering.outR = s.steering.outR ∧ t.steering.pulse = none) ∧
      let settled :=
        (t.steering.outF - t.steering.targetF).natAbs ≤ w.settleUs ∧
          (t.steering.outR - t.steering.targetR).natAbs ≤ w.settleUs
      (s.steering.phase = .transition → settled →
        logged s.now s.retention.log
          [record s .modeApplied
            [s.steering.modeBefore.code, s.steering.mode.code, elapsed s.now s.steering.began]] t.retention.log) ∧
        (s.steering.phase = .transition → ¬settled → t.steering.phase = .transition ∧ t.steering.settled = false) ∧
        (¬settled → t.steering.settled = false) ∧
        (¬(s.steering.phase = .transition ∧ settled) → logsNo s.now s.retention.log .modeApplied t.retention.log) ∧
        (s.steering.phase = .transition → settled → t.supply.idle = (restartIdle s).supply.idle) ∧
        (s.steering.waiting = none ∨ GatesOk s ∧ modesUnread s →
          (t.steering.mode = s.steering.mode ∧ t.steering.waiting = s.steering.waiting ∧
              t.steering.began = s.steering.began ∧ t.steering.modeBefore = s.steering.modeBefore) ∧
            (s.steering.phase = .transition → settled →
              t.steering.phase = (if s.steering.waiting = none then .steady else .waiting) ∧ t.steering.timer = none) ∧
            (¬(s.steering.phase = .transition ∧ settled) →
              t.steering.phase = s.steering.phase ∧ t.steering.timer = s.steering.timer) ∧
            (t.steering.settled = true ↔ settled ∧ t.steering.phase ≠ .transition) ∧
            t.interlock.conds.steerSettled = t.steering.settled)

/-- The mode-change protocol. A request (R135 to R138): by the mode-change state and MODE_CHANGE it begins a transition, replaces the
mode of one, waits, discards the waiting mode, or is dropped with MODE_DROPPED; one for the reference mode does nothing. That a
request waits under a HELD entered from RELEASED is log entry 41, and which mode is then "the mode before" log entry 43 (both DESIGN
CHOICE). A change of MODE_CHANGE with a mode waiting (R140). A STEER_MODE command that a CLAIM changes in ACTIVE is such a request;
stated where no gate or latch reads what the change itself moves. The transition timer's expiry (R139): MODE_FORCED with the
distances of both outputs comes first, the mode stays applied, and the state is STEADY or WAITING with STEER_SETTLED false. That the
reason TIMEOUT stands as 0 in the high byte of the first field, and RELEASED as 0 in MODE_DROPPED, is log entry 21 (DEDUCED). -/
def Obligations.TransitionIsForced : Prop :=
  (∀ (m : Mode) (s : State),
      let k := s.steering
      let target := s.interlock.targets.modeChange
      let t := modeRequest m s
      let atRest : Bool := decide (distanceF s ≤ k.settleUs) && decide (distanceR s ≤ k.settleUs)
      let timer := some (timerAt s.now s.cfg.steering.transitionTimeoutMs)
      let dropped : Prop :=
        t.steering = k ∧ t.retention = { s.retention with log := s.retention.log.enter (record s .modeDropped [m.code, 0]) } ∧
          { t with steering := k, retention := s.retention, alert := s.alert } = s
      let becomes (k' : Steering) : Prop := t = { restartIdle s with steering := k' }
      let only (k' : Steering) : Prop := t = { s with steering := k' }
      (m = k.waiting.getD k.mode → t = s) ∧
        (m ≠ k.waiting.getD k.mode →
          (k.phase = .steady →
              (target = .opened → becomes { k with
                phase := .transition, modeBefore := k.mode, mode := m, timer := timer, began := s.now, settled := false
                waiting := if k.waiting = some m then none else k.waiting }) ∧
                (target = .held → becomes { k with phase := .waiting, waiting := some m, settled := atRest }) ∧
                (target = .released → dropped)) ∧
            (k.phase = .waiting →
              (m = k.mode → becomes { k with phase := .steady, waiting := none, settled := atRest }) ∧
                (m ≠ k.mode → only { k with waiting := some m })) ∧
            (k.phase = .transition →
              (target = .opened → only { k with mode := m, waiting := none, timer := timer }) ∧
                (target = .held → only { k with waiting := if m = k.mode then none else some m }) ∧
                (target = .released → dropped)))) ∧
    (∀ (old new : TargetState) (s : State),
      let k := s.steering
      let t := modeChangeTarget old new s
      let atRest : Bool := decide (distanceF s ≤ k.settleUs) && decide (distanceR s ≤ k.settleUs)
      let timer := some (timerAt s.now s.cfg.steering.transitionTimeoutMs)
      (k.waiting = none ∨ new = .held → t = s) ∧
        ∀ m, k.waiting = some m →
          (new = .opened → k.phase = .waiting →
              t = { restartIdle s with steering := { k with
                phase := .transition, modeBefore := k.mode, mode := m, waiting := none, timer := timer, began := s.now
                settled := false } }) ∧
            (new = .opened → k.phase = .transition →
              t = { s with steering := { k with mode := m, waiting := none, timer := timer } }) ∧
            (new = .released →
              t.retention.log = s.retention.log.enter (record s .modeDropped [m.code, 0]) ∧
                t.steering =
                  (if k.phase = .waiting then { k with phase := .steady, waiting := none, settled := atRest }
                   else { k with waiting := none }))) ∧
    (∀ (lo : Byte) (extra : List Byte) (m : Mode) (s : State), s.powered = true → s.supply.state ≠ .qualify →
      GatesOk s → modesUnread s → modeOfCode lo.toNat = some m →
      let r : Request := { params := [byteOf (fnCode .steerMode), 0, lo, 0], extra := extra }
      let u := taken true s
      u.authority.entries.steerMode.lockout = none →
      ∃ t, exec (.claim r) s = .next t ∧ t.authority.commands.mode = m ∧ t.interlock.targets = u.interlock.targets ∧
        t.steering = (if m = u.authority.commands.mode then u else modeRequest m u).steering ∧
        t.retention.log = (if m = u.authority.commands.mode then u else modeRequest m u).retention.log) ∧
  ∀ s : State, s.steering.phase = .transition → dueAt s.steering.timer s.now = true →
    ∃ t, exec .transitionTimerExpiry s = .next t ∧ t.still = s.still ∧
      logged s.now s.retention.log
        [record s .modeForced
          [s.steering.mode.code, (s.steering.outF - s.steering.targetF).natAbs,
            (s.steering.outR - s.steering.targetR).natAbs]] t.retention.log ∧
      (s.steering.waiting = none →
        t.steering = { s.steering with
          phase := .steady, timer := none, settled := false, freeze := t.steering.freeze } ∧
          t.interlock.conds.steerSettled = false) ∧
      (s.steering.waiting ≠ none → GatesOk s → modesUnread s →
        t.steering = { s.steering with phase := .waiting, timer := none, settled := false } ∧
          t.interlock.targets = s.interlock.targets)

/-- An ESC frame (R144 to R149, R151): the ratio and the period are taken, the throttle is gated by the target of its direction,
the effective throttle is ramped toward the candidate in ACTIVE and 0 otherwise, and the output, the pulse that the frame begins on
ESC and the demand follow; nothing else changes but what the REVERSE role of the lights makes of it (R184). -/
def Obligations.EscFrameDrives : Prop :=
  ∀ s : State, s.powered = true → s.drive.clock.due s.now = true →
    let w := s.cfg.drive
    let q := s.budget.classes.drive.ratio
    let d := s.authority.commands.throttle
    ∃ t, exec .escFrame s = .next t ∧
      t.drive.clock = s.drive.clock.fall w.escFrameMs ∧ t.drive.q = q ∧
      (0 < d →
        (s.interlock.targets.driveFwd = .opened → t.drive.gated = d) ∧
          (s.interlock.targets.driveFwd = .released → t.drive.gated = 0) ∧
          ∀ v, s.interlock.targets.driveFwd = .held → s.drive.fwdFreeze = some v → t.drive.gated = v) ∧
      (d < 0 →
        (s.interlock.targets.driveRev = .opened → t.drive.gated = d) ∧
          (s.interlock.targets.driveRev = .released → t.drive.gated = 0) ∧
          ∀ v, s.interlock.targets.driveRev = .held → s.drive.revFreeze = some v → t.drive.gated = v) ∧
      (d = 0 → t.drive.gated = 0) ∧
      (s.supply.state = .active →
        t.drive.dEff =
          rampStep w.ramp s.drive.dEff
            (driveCandidate t.drive.gated q s.protection.effective s.tripActive w.limpDrivePct)) ∧
      (s.supply.state ≠ .active → t.drive.dEff = 0) ∧
      t.drive.out =
        clampI w.endLow w.endHigh
          (1500 + w.trim + (if w.rev = true then -1 else 1) * (t.drive.dEff * w.throw).tdiv 1000) ∧
      t.drive.pulse = some t.drive.out ∧ t.escPin = some t.drive.out ∧
      t.drive.demand = s.cfg.budget.driveFullMa * t.drive.gated.natAbs / 1000 ∧
      t.drive.fwdFreeze = s.drive.fwdFreeze ∧ t.drive.revFreeze = s.drive.revFreeze ∧
      { t with drive := s.drive, lights := s.lights } = s ∧
      t.still = { s with drive := t.drive }.still

/-! ## The winch and the hook (chapter 9) -/

/-- A winch frame (R157 to R163, R171, R172), up to handing WINCH_MOVING on. While no job is held, what the winch does with the manual
request: R159's table, where a HELD target puts its freeze in place of the request's duty, and a RELEASED target or the freeze
*stopped* starts nothing (R163). A running job is the request at its own duty, whatever the stick. A job that has not started stops a
winch that moves and brings a FREE one to IDLE; from IDLE the head starts, which ends some jobs at once (R172: STOWED and LIMIT flush
the rest, the codes of the outcomes are log entry 20, DESIGN CHOICE) and waits while the target of its direction is not OPEN. The
effective duty of a motion is scaled by the ratio, capped in LIMP while hauling, and 0 in a trip (R161). -/
def Obligations.WinchFrameTable : Prop :=
  ∀ s : State, s.supply.state = .active → s.winch.clock.due s.now = true →
    let u := winchFrameStep s
    let v := s.authority.commands.winch
    let b : Int := s.radio.bands.winch
    let cutoff : Prop := s.protection.effective = .cutoff
    -- a request in the direction of `motion`, whose target and freeze these are, and whose start `barred` keeps from IDLE
    let asked (motion against : WinchState) (barred : Prop) (target : TargetState) (freeze : Option WinchFreeze) : Prop :=
      let moves (duty : Nat) : Prop :=
        (s.winch.st = .idle → ¬barred → u.winch.st = motion ∧ u.winch.duty = duty) ∧
          (s.winch.st = .idle → barred → u.winch.st = .idle) ∧
          (s.winch.st = motion → u.winch.st = motion ∧ u.winch.duty = duty)
      (target = .opened → moves v.natAbs) ∧ (∀ f, freeze = some (.duty f) → target = .held → moves f) ∧
        (target = .released ∨ target = .held ∧ freeze = some .stopped → s.winch.st = .idle → u.winch.st = .idle) ∧
        (s.winch.st = against ∨ s.winch.st = .free → u.winch.st = .stopping)
    (u.winch.clock = s.winch.clock.fall 10 ∧ u.winch.q = s.budget.classes.winch.ratio) ∧
      (s.winch.st = .stopping ∨ s.winch.st = .stalled → u.winch.st = s.winch.st) ∧
      (s.winch.queue = [] → s.winch.running = none →
        (v ≤ b → -b ≤ v →
            u.winch.st = (if s.winch.st = .hauling ∨ s.winch.st = .payingOut then .stopping else s.winch.st)) ∧
          (b < v →
            asked .hauling .payingOut (s.winch.stowed = true ∨ cutoff) s.interlock.targets.winchHaul s.winch.haulFreeze) ∧
          (v < -b →
            asked .payingOut .hauling (s.cfg.winch.maxPayout ≤ s.retention.lineCount ∨ cutoff)
              s.interlock.targets.winchPayout s.winch.payoutFreeze)) ∧
      (∀ r j rest, s.winch.running = some r → s.winch.queue = j :: rest →
        let runsOn (target : TargetState) (freeze : Option WinchFreeze) : Prop :=
          target = .opened ∨ target = .held ∧ freeze = some (.duty j.duty) →
            u.winch.st = s.winch.st ∧ u.winch.duty = j.duty
        (s.winch.st = .hauling → j.kind = .haulBy ∨ j.kind = .haulToTension ∨ j.kind = .haulToStow →
            runsOn s.interlock.targets.winchHaul s.winch.haulFreeze) ∧
          (s.winch.st = .payingOut → j.kind = .payoutBy → runsOn s.interlock.targets.winchPayout s.winch.payoutFreeze) ∧
          (s.winch.st = .free → j.kind = .freeFor → u.winch.st = .free) ∧
          u.winch.queue = s.winch.queue ∧ u.winch.running = s.winch.running ∧ u.retention = s.retention) ∧
      (∀ j rest, s.winch.queue = j :: rest → s.winch.running = none →
        s.winch.st = .hauling ∨ s.winch.st = .payingOut ∨ s.winch.st = .stopping ∨ s.winch.st = .stalled →
        u.winch.st = (if s.winch.st = .stalled then .stalled else .stopping) ∧ u.winch.queue = s.winch.queue ∧
          u.winch.running = none ∧ u.retention = s.retention) ∧
      (∀ j rest, s.winch.queue = j :: rest → s.winch.running = none → s.winch.st = .idle ∨ s.winch.st = .free →
        s.protection.effective ≠ .cutoff →
        let hauls : Prop := j.kind = .haulBy ∨ j.kind = .haulToTension ∨ j.kind = .haulToStow
        let opens : Prop :=
          (hauls → s.interlock.targets.winchHaul = .opened) ∧
            (j.kind = .payoutBy → s.interlock.targets.winchPayout = .opened)
        let full : Prop := s.cfg.winch.maxPayout ≤ s.retention.lineCount
        let ends (outcome : JobOutcome) : Prop :=
          u.winch.st = .idle ∧ u.winch.running = none ∧ u.winch.queue = (if outcome = .done then rest else []) ∧
            logged s.now s.retention.log
              (record s .winchJobEnd [j.tag, outcome.code, 0] ::
                (if outcome = .done ∨ rest = [] then [] else [record s .queueFlushed [rest.length]])) u.retention.log
        let starts : Prop :=
          u.winch.st = (if hauls then .hauling else if j.kind = .payoutBy then .payingOut else .free) ∧
            u.winch.queue = s.winch.queue ∧
            u.winch.running = some
              { moved := 0, timeout := timerAt s.now j.timeout
                freeFor := if j.kind = .freeFor then some (timerAt s.now (j.amount.getD 0)) else none
                tension := none } ∧
            (j.kind ≠ .freeFor → u.winch.duty = j.duty) ∧ u.retention = s.retention
        (opens → j.kind = .haulToStow → s.winch.stowed = true → ends .done) ∧
          (opens → j.kind = .haulBy ∨ j.kind = .haulToTension → s.winch.stowed = true → ends .stowed) ∧
          (opens → j.kind = .payoutBy ∨ j.kind = .freeFor → full → ends .limit) ∧
          (opens → (hauls → s.winch.stowed = false) → (¬hauls → ¬full) → starts) ∧
          (¬opens → u.winch.st = .idle ∧ u.winch.queue = s.winch.queue ∧ u.winch.running = none ∧
            u.retention = s.retention)) ∧
      (u.winch.st.moves = true →
        let scaled := u.winch.duty * u.winch.q / 256
        u.winch.eff =
            (if s.tripActive = true then 0
             else if u.winch.st = .hauling ∧ s.protection.effective = .limp then
               Nat.min scaled (s.cfg.winch.limpWinchPct * 10)
             else scaled) ∧
          u.winch.demand = s.cfg.winch.winchLimitMa * u.winch.duty / 1000) ∧
      (u.winch.st.moves = false → u.winch.eff = 0 ∧ u.winch.demand = 0)

/-- A winch frame that is due (R157) runs the winch as `WinchFrameTable` says of `winchFrameStep` and then hands WINCH_MOVING on
(R156): that is its next state, and the Interlock Unit's copy of WINCH_MOVING is then the winch's. A frame that leaves WINCH_MOVING
as it was leaves the winch, its jobs and the log as the table has them, and the lights take what changed (R187); so does one that
changes it, the freezes and the records of the evaluation aside, where no gate releases a winch target (R158 to R163, R171, R172).
In every frame the state stands unless the evaluation releases the target of a motion, and nothing moves but the winch, the resumed
expiry of its claim and what an evaluation can move. Outside ACTIVE the request is NONE. -/
def Obligations.WinchFrameRunsTheWinch : Prop :=
  ∀ s : State, s.powered = true → s.winch.clock.due s.now = true →
    let u := winchFrameStep s
    ∃ t, exec .winchFrame s = .next t ∧ t = notifyWinch u ∧ t.interlock.conds.winchMoving = t.winchMoving ∧
      (s.interlock.conds.winchMoving = u.winchMoving → lightsTake u t) ∧
      ((∀ g ∈ s.cfg.interlock.gates.toList, g.enabled = true → g.action = .release →
          g.target ≠ some .winchHaul ∧ g.target ≠ some .winchPayout) →
        t.winch = { u.winch with haulFreeze := t.winch.haulFreeze, payoutFreeze := t.winch.payoutFreeze } ∧
          logged s.now u.retention.log [] t.retention.log) ∧
      t.still =
        { s with winch := { s.winch with clock := s.winch.clock.fall 10, q := s.budget.classes.winch.ratio } }.still ∧
      (t.winch.st = u.winch.st ∨ u.winch.st.moves = true ∧ t.winch.st.moves = false) ∧
      (s.supply.state ≠ .active →
        (s.winch.st = .hauling ∨ s.winch.st = .payingOut → t.winch.st = .stopping) ∧
          (s.winch.st = .idle ∨ s.winch.st = .stopping ∨ s.winch.st = .stalled → t.winch.st = s.winch.st)) ∧
      (s.winch.queue = [] → t.winch.queue = [])

/-- The winch's own timers: the STOPPING dwell (R160) and the stall-clear neutral run (R168) end in IDLE with nothing else changed;
a job's timeout (R174) ends it TIMEOUT with the rest flushed and the motion stopped; a FREE_FOR time (R173) ends it DONE and the
queue goes on. The two runs judged on a set: the tension run of a HAUL_TO_TENSION job, which ends it DONE (R173), and then the stall
run, which ends in STALLED with WINCH_STALL first and a running job STALLED (R167, R174); a set completed in ACTIVE with no trip on
it that leaves the level as it was is judged so; that the set's allotment follows this judgement is log entry 10 (DEDUCED). The
stall-clear neutral run is judged at the entry to STALLED and at each handing-over of the WINCH command or authority (R168, R92): at
a valid frame, a silence timer, a taken CLAIM or RELEASE, a claim's expiry and a write of blend_limit. The codes of the outcomes in
WINCH_JOB_END are log entry 20 (DESIGN CHOICE). -/
def Obligations.WinchTimersEnd : Prop :=
  ∀ s : State,
    winchOnSet s (winchSet s) ∧
      (∀ (vMeas iMeas iServo iWinch : Int) (i : Identity), s.supply.state = .active → s.monitor.clock.due s.now = true →
        s.retention.identity = some i →
        ∃ v t, exec (.sampleSet vMeas iMeas iServo iWinch) s = .next t ∧
          t = publishAllotment (notifyWinch (winchSet v)) ∧ v.now = s.now ∧ v.cfg = s.cfg ∧
          v.monitor.latest.iWinch = taken16 iWinch ∧ v.protection.effective = t.protection.effective ∧
          v.tripActive = t.tripActive ∧ v.retention.lineCount = s.retention.lineCount ∧
          (t.protection.effective = s.protection.effective → taken16 iMeas < s.cfg.pack.tripMa →
            v.winch = s.winch ∧ v.retention.log = s.retention.log)) ∧
      (let judged (c : Instr) (taken : State → Prop) : Prop :=
          ∃ t, exec c s = .next t ∧ (taken t → neutralRunJudged s t)
        let answer (code : Byte) (t : State) : Prop :=
          t.assist.slot = responseBytes .ok code [] ∨ t.assist.slot = responseBytes .okClamped code []
        s.powered = true →
          (∀ bytes, wholeFrame bytes → judged (.radioFrame bytes .clean) (fun _ => True)) ∧
            (s.radio.link = .up → dueAt s.radio.hold s.now = true → judged .holdTimerExpiry (fun _ => True)) ∧
            (s.radio.link = .rearm ∨ s.radio.link = .up ∨ s.radio.link = .holding → dueAt s.radio.failsafe s.now = true →
              judged .failsafeTimerExpiry (fun _ => True)) ∧
            (∀ r, judged (.claim r) (answer 0x06)) ∧ (∀ r, judged (.release r) (answer 0x07)) ∧
            (∀ f c, (s.authority.entries.get f).claim = some c → dueAt c.expiry s.now = true →
              judged (.claimExpiry f) (fun _ => True)) ∧
            ∀ value extra, judged (.writeSetting { params := [0x00, 0x05] ++ value, extra := extra }) (answer 0x11)) ∧
    (s.winch.st = .stopping → dueAt s.winch.dwell s.now = true →
        ∃ t, exec .stoppingDwellExpiry s = .next t ∧
          t.winch = { s.winch with
            st := .idle, duty := 0, eff := 0, dwell := none, stallRun := none, neutralRun := none, demand := 0 } ∧
          { t with winch := s.winch } = restartIdle s) ∧
      (s.winch.st = .stalled → dueAt s.winch.neutralRun s.now = true →
        ∃ t, exec .stallNeutralRunExpiry s = .next t ∧
          t.winch = { s.winch with
            st := .idle, duty := 0, eff := 0, dwell := none, stallRun := none, neutralRun := none, demand := 0 } ∧
          { t with winch := s.winch } = restartIdle s) ∧
      ∀ r j rest, s.winch.running = some r → s.winch.queue = j :: rest →
        let stopped : WinchState :=
          match s.winch.st with
          | .hauling | .payingOut => .stopping
          | .free => .idle
          | .idle | .stopping | .stalled => s.winch.st
        (r.timeout.due s.now = true →
            ∃ t, exec .jobTimeout s = .next t ∧ t.still = s.still ∧ t.winch.queue = [] ∧ t.winch.running = none ∧
              t.winch.st = stopped ∧
              logged s.now s.retention.log
                ([record s .winchJobEnd [j.tag, 3, r.moved]] ++
                  (if rest = [] then [] else [record s .queueFlushed [rest.length]])) t.retention.log) ∧
          (dueAt r.freeFor s.now = true →
            ∃ t, exec .freeForExpiry s = .next t ∧ t.still = s.still ∧ t.winch.queue = rest ∧ t.winch.running = none ∧
              t.winch.st = stopped ∧
              logged s.now s.retention.log [record s .winchJobEnd [j.tag, 0, r.moved]] t.retention.log)

/-- A pulse of the encoder (R164, R165, R173): the line count falls hauling and rises paying out or free, in the last direction
otherwise, never below 0 and not at or beyond max_payout; reaching max_payout in PAYING_OUT or FREE stops the winch with
PAYOUT_LIMIT first; a HAUL_BY or PAYOUT_BY job ends DONE when its amount has moved, on the pulse that reaches the limit too, and a
PAYOUT_BY or FREE_FOR job that the limit meets first ends LIMIT with the rest flushed. A pulse that reaches no limit while no job
runs counts the line and nothing else. Of the rest nothing moves but what the end of
a motion and of a job brings about. The codes DONE 0 and LIMIT 2 in WINCH_JOB_END are log entry 20, and that a pulse in FREE adds to
the moved count of a FREE_FOR job log entry 51 (both DESIGN CHOICE). -/
def Obligations.EncoderPulseCounts : Prop :=
  ∀ s : State, s.powered = true →
    let dir : Direction :=
      match s.winch.st with
      | .hauling => .haul
      | .payingOut | .free => .payout
      | .idle | .stopping | .stalled => s.winch.lastDir
    let n := s.retention.lineCount
    let limit := s.cfg.winch.maxPayout
    let n' := if dir = .haul then n - 1 else if limit ≤ n then n else n + 1
    let reached := n < limit ∧ limit ≤ n' ∧ (s.winch.st = .payingOut ∨ s.winch.st = .free)
    ∃ t, exec .encPulse s = .next t ∧
      t.still = { s with retention := { s.retention with lineCount := n' } }.still ∧
      (reached →
        t.winch.st = (if s.winch.st = .free then .idle else .stopping) ∧
          logged s.now s.retention.log [record s .payoutLimit [limit]] t.retention.log) ∧
      (s.winch.running = none → ¬reached → s.interlock.conds.winchMoving = s.winchMoving →
        t.winch = s.winch ∧ t.retention.log = s.retention.log ∧
          lightsTake { s with retention := { s.retention with lineCount := n' } } t) ∧
      (∀ r j rest, s.winch.running = some r → s.winch.queue = j :: rest → reached → j.kind.motion = s.winch.st →
        let moved := r.moved + 1
        let ends (outcome : JobOutcome) : List LogRecord :=
          [record s .payoutLimit [limit], record s .winchJobEnd [j.tag, outcome.code, moved]]
        (j.kind = .payoutBy → j.amount = some moved →
            t.winch.queue = rest ∧ t.winch.running = none ∧
              logged s.now s.retention.log (ends .done) t.retention.log) ∧
          (¬(j.kind = .payoutBy ∧ j.amount = some moved) →
            t.winch.queue = [] ∧ t.winch.running = none ∧
              logged s.now s.retention.log
                (ends .limit ++ (if rest = [] then [] else [record s .queueFlushed [rest.length]])) t.retention.log)) ∧
      (∀ r j rest, s.winch.running = some r → s.winch.queue = j :: rest → ¬reached →
        let moved := r.moved + 1
        (j.kind.motion = s.winch.st → j.kind = .haulBy ∨ j.kind = .payoutBy → j.amount = some moved →
            t.winch.st = .stopping ∧ t.winch.queue = rest ∧
              logged s.now s.retention.log [record s .winchJobEnd [j.tag, 0, moved]] t.retention.log) ∧
          (s.interlock.conds.winchMoving = s.winchMoving → j.kind.motion = s.winch.st →
            ¬((j.kind = .haulBy ∨ j.kind = .payoutBy) ∧ j.amount = some moved) →
            t.winch = { s.winch with running := some { r with moved := moved } } ∧ t.retention.log = s.retention.log) ∧
          (s.interlock.conds.winchMoving = s.winchMoving → j.kind.motion ≠ s.winch.st →
            t.winch = s.winch ∧ t.retention.log = s.retention.log))

/-- A change of the HOOK pin begins its debounce anew, and nothing else (R166); in RETAIN the pin alone is followed. When the debounce
ends, HOOK_STOWED takes the pin's level; becoming true zeroes the line count and, in HAULING, stops the winch with HOOK_SEATED first
and ends a haul job DONE or STOWED (R173); the change reaches the Interlock Unit, and wakes a parked part that armed for it (R67). The
codes DONE 0 and STOWED 1 in WINCH_JOB_END are log entry 20 (DESIGN CHOICE). -/
def Obligations.HookIsDebounced : Prop :=
  ∀ s : State,
    (∀ v, exec (.hookInputChange v) s = .next
        (if s.pins.hook = v then s
         else
          { s with
            pins := { s.pins with hook := v }
            winch := { s.winch with hookRun := if s.supply.state = .retain then none else some (timerAt s.now 20) } })) ∧
      (dueAt s.winch.hookRun s.now = true →
        let v := s.pins.hook
        (v = s.winch.stowed → exec .hookDebounceExpiry s = .next { s with winch := { s.winch with hookRun := none } }) ∧
          (v ≠ s.winch.stowed →
            ∃ t, exec .hookDebounceExpiry s = .next t ∧ t.winch.stowed = v ∧ t.winch.hookRun = none ∧
              t.interlock.conds.hookStowed = v ∧
              t.retention.lineCount = (if v = true then 0 else s.retention.lineCount) ∧
              (v = true → s.winch.st = .hauling →
                t.winch.st = .stopping ∧
                  logged s.now s.retention.log [record s .hookSeated [s.retention.lineCount]] t.retention.log ∧
                  ∀ r j rest, s.winch.running = some r → s.winch.queue = j :: rest → j.kind.hauls = true →
                    logged s.now s.retention.log
                        [record s .hookSeated [s.retention.lineCount],
                          record s .winchJobEnd [j.tag, if j.kind = .haulToStow then 0 else 1, r.moved]] t.retention.log ∧
                      t.winch.queue = (if j.kind = .haulToStow then rest else [])) ∧
              (s.supply.state ≠ .park →
                t.still =
                  { s with
                    winch := { s.winch with hookRun := none, stowed := v }
                    retention := { s.retention with lineCount := t.retention.lineCount } }.still) ∧
              (s.supply.state = .park →
                t.supply.state = (if v = true ∧ s.supply.hookLatch = true then .active else .park) ∧
                  (v = false → t.supply.hookLatch = true))))

/-! ## Tilt, locate and the lights (chapter 10) -/

/-- A change of the TILT pin begins its debounce anew, and nothing else (R193). When it ends, TILTED takes the pin's level, the tilt
arming timer begins or is gone, the change reaches the Interlock Unit, and wakes a parked part that armed for it (R67). The arming
timers (R194) set a clear locate latch with LOCATE_ARMED first, its cause TILT or LINK, and LOCATE_ACTIVE is handed on; a latch
already set stays as it is. -/
def Obligations.TiltIsDebouncedAndLocateArms : Prop :=
  ∀ s : State,
    (∀ v, exec (.tiltInputChange v) s = .next
        (if s.pins.tilt = v then s
         else
          { s with
            pins := { s.pins with tilt := v }
            lights := { s.lights with tiltRun := if s.supply.state = .retain then none else some (timerAt s.now 200) } })) ∧
      (dueAt s.lights.tiltRun s.now = true →
        let v := s.pins.tilt
        (v = s.lights.tilted → exec .tiltDebounceExpiry s = .next { s with lights := { s.lights with tiltRun := none } }) ∧
          (v ≠ s.lights.tilted →
            ∃ t, exec .tiltDebounceExpiry s = .next t ∧ t.lights.tilted = v ∧ t.lights.tiltRun = none ∧
              t.lights.tiltArm = (if v = true then some (timerAt s.now 3000) else none) ∧
              t.interlock.conds.tilted = v ∧
              (s.supply.state ≠ .park →
                t.still = { s with
                  lights := { s.lights with tiltRun := none, tilted := v, tiltArm := t.lights.tiltArm } }.still) ∧
              (s.supply.state = .park →
                t.supply.state = (if v = true ∧ s.supply.tiltLatch = true then .active else .park) ∧
                  (v = false → t.supply.tiltLatch = true)))) ∧
      (dueAt s.lights.tiltArm s.now = true →
        armsLocate 1 .tiltArmingExpiry s { s with lights := { s.lights with tiltArm := none } }) ∧
      (dueAt s.lights.linkArm s.now = true →
        armsLocate 2 .linkArmingExpiry s { s with lights := { s.lights with linkArm := none } })

/-- A pattern step of a channel's own run (R182): the next step, or the first again in a pattern that loops, or the last again,
begins. A step of the shared blinker (R186) is a pattern step of every channel on it. At a pattern step the channel takes its class
ratio, and its level is the step's scaled by the brightness and the ratio, or 0 while it is dark or its SCENE ratio is below 64
(R189, R190). No other channel and nothing else changes. A step of a frozen channel begins the frozen step afresh (R191). A change
of any input: the blinker starts and stops (R186); every channel takes the source R184 gives, joins the blinker or restarts its run
(R185), turns dark or bright at the event (R190), under SCENE_LIGHTS shows what R191 gives; the three demands are formed afresh
(R192). A new SCENE_LIGHTS freezes, darkens or frees the SCENE channels (R191). A channel written into class SCENE while
SCENE_LIGHTS is HELD is log entry 14, that an event which changes an input too freezes what showed before it log entry 45, and that
one which opens it compares the freeze with the source after the change log entry 56 (DESIGN CHOICE). That a frozen channel shows,
counts and thaws by what its pattern held at the freeze is log entry 15 (DEDUCED). -/
def Obligations.PatternsStepOn : Prop :=
  ∀ s : State,
    lightsTake s (lightsRefresh s) ∧
    (∀ (old : TargetState) (i : Fin 8), old ≠ s.interlock.targets.sceneLights →
      (s.cfg.lights.channels.get i).cls = .scene →
      sceneChannelTakes old s (lightsRefresh (lightsTarget old s.interlock.targets.sceneLights s)) i) ∧
    let ratioFor (i : Fin 8) : Nat :=
      match (s.cfg.lights.channels.get i).cls with
      | .signal => s.budget.classes.signal.ratio
      | .scene => s.budget.classes.scene.ratio
    let levelFor (i : Fin 8) (level : Nat) : Nat :=
      if (s.lights.chans.get i).dark = true ∨ (s.cfg.lights.channels.get i).cls = .scene ∧ ratioFor i < 64 then 0
      else level * (s.cfg.lights.channels.get i).brightness / 255 * ratioFor i / 256
    let following (p : Pattern) (k : Nat) : Nat :=
      if k + 1 < p.steps.length then k + 1 else if p.loop = true then 0 else p.steps.length - 1
    (∀ ch : Fin 8,
        let c := s.lights.chans.get ch
        let p := s.cfg.lights.patternOf c.pattern
        let k := following p c.step
        dueAt c.timer s.now = true → c.freeze = none → c.blinks = false →
        ∃ t, exec (.patternStep ch) s = .next t ∧
          t.lights.chans.get ch =
            { c with
              step := k, timer := some (timerAt s.now ((p.stepAt k).units * 10)), ratio := ratioFor ch,
              level := levelFor ch (p.stepAt k).level } ∧
          (∀ i, i ≠ ch → t.lights.chans.get i = s.lights.chans.get i) ∧
          { t with lights := { t.lights with chans := s.lights.chans } } = s) ∧
      (∀ (ch : Fin 8) (src : Source) (idx : Fin 8) (p : Pattern) (k : Nat),
        let c := s.lights.chans.get ch
        dueAt c.timer s.now = true → c.freeze = some (.shown src idx p k) →
        ∃ t, exec (.patternStep ch) s = .next t ∧
          t.lights.chans.get ch =
            { c with
              timer := some (timerAt s.now ((p.stepAt k).units * 10)), ratio := ratioFor ch,
              level := levelFor ch (p.stepAt k).level } ∧
          (∀ i, i ≠ ch → t.lights.chans.get i = s.lights.chans.get i) ∧
          { t with lights := { t.lights with chans := s.lights.chans } } = s) ∧
      ∀ b : Blinker, s.lights.blinker = some b → b.timer.due s.now = true →
        let p := s.cfg.lights.p2
        let k := following p b.step
        ∃ t, exec .blinkerStep s = .next t ∧
          t.lights.blinker = some { step := k, timer := timerAt s.now ((p.stepAt k).units * 10) } ∧
          (∀ i, let c := s.lights.chans.get i
            t.lights.chans.get i =
              if c.blinks = true ∧ c.freeze = none then
                { c with ratio := ratioFor i, level := levelFor i (p.stepAt k).level }
              else c) ∧
          { t with lights := { t.lights with chans := s.lights.chans, blinker := s.lights.blinker } } = s

/-! ## Events that are none -/

/-- An expiry of a timer that does not run or has not run its time, and a frame, a measurement or a sample set before its
period is over, change nothing. That such a command is accepted at all is the model's choice (log entry 3). -/
def Obligations.EventsNotDueChangeNothing : Prop :=
  ∀ s : State,
    (dueAt s.monitor.tripHold s.now = false → exec .tripHoldExpiry s = .next s) ∧
      (dueAt s.supply.railWait s.now = false → exec .railWaitExpiry s = .next s) ∧
      (dueAt s.supply.idle s.now = false → exec .parkIdleExpiry s = .next s) ∧
      (dueAt s.radio.hold s.now = false → exec .holdTimerExpiry s = .next s) ∧
      (dueAt s.radio.failsafe s.now = false → exec .failsafeTimerExpiry s = .next s) ∧
      (dueAt s.steering.timer s.now = false → exec .transitionTimerExpiry s = .next s) ∧
      (dueAt s.winch.dwell s.now = false → exec .stoppingDwellExpiry s = .next s) ∧
      (dueAt s.winch.neutralRun s.now = false → exec .stallNeutralRunExpiry s = .next s) ∧
      (dueAt s.winch.hookRun s.now = false → exec .hookDebounceExpiry s = .next s) ∧
      (s.winch.running = none → exec .jobTimeout s = .next s ∧ exec .freeForExpiry s = .next s) ∧
      (∀ r, s.winch.running = some r →
        (r.timeout.due s.now = false → exec .jobTimeout s = .next s) ∧
          (dueAt r.freeFor s.now = false → exec .freeForExpiry s = .next s)) ∧
      (s.retention.identity = none → exec .tripLimpExpiry s = .next s ∧ exec .limpHomePeriodExpiry s = .next s) ∧
      (∀ i, s.retention.identity = some i →
        (dueAt i.tripLimp s.now = false → exec .tripLimpExpiry s = .next s) ∧
          (dueAt i.limpPeriod s.now = false → exec .limpHomePeriodExpiry s = .next s)) ∧
      (∀ f, let e := s.authority.entries.get f
        (e.claim = none → exec (.claimExpiry f) s = .next s) ∧
          (∀ c, e.claim = some c → dueAt c.expiry s.now = false → exec (.claimExpiry f) s = .next s) ∧
          (e.lockout = none → exec (.lockoutNeutralRunExpiry f) s = .next s ∧ exec (.switchLockoutExpiry f) s = .next s) ∧
          ∀ l, e.lockout = some l →
            (dueAt l.run s.now = false → exec (.lockoutNeutralRunExpiry f) s = .next s) ∧
              (dueAt l.ends s.now = false → exec (.switchLockoutExpiry f) s = .next s)) ∧
      (dueAt s.lights.tiltRun s.now = false → exec .tiltDebounceExpiry s = .next s) ∧
      (dueAt s.lights.tiltArm s.now = false → exec .tiltArmingExpiry s = .next s) ∧
      (dueAt s.lights.linkArm s.now = false → exec .linkArmingExpiry s = .next s) ∧
      (∀ ch, dueAt (s.lights.chans.get ch).timer s.now = false → exec (.patternStep ch) s = .next s) ∧
      (s.lights.blinker = none → exec .blinkerStep s = .next s) ∧
      (∀ b, s.lights.blinker = some b → b.timer.due s.now = false → exec .blinkerStep s = .next s) ∧
      (s.store.writing = none → ∀ ok, exec (.commitEnd ok) s = .next s) ∧
      (∀ image t0, s.store.writing = some (image, t0) → t0.due s.now = false → ∀ ok, exec (.commitEnd ok) s = .next s) ∧
      (dueAt s.assist.window s.now = false → exec .assistWindowExpiry s = .next s) ∧
      (s.steering.clock.due s.now = false → exec .steerFrame s = .next s) ∧
      (s.drive.clock.due s.now = false → exec .escFrame s = .next s) ∧
      (s.winch.clock.due s.now = false → exec .winchFrame s = .next s) ∧
      (s.supply.backupClock.due s.now = false → ∀ mv, exec (.backupMeasurement mv) s = .next s) ∧
      (s.monitor.clock.due s.now = false → ∀ a b c d, exec (.sampleSet a b c d) s = .next s)
end

