-- ==== Sys2Proof/Laws/Log.lean ====
section
/-! SUPPORT. What an entry into the log can do (R198, R201), and the fields it leaves. -/
namespace Sys2Proof.Machine

/-! ## The ring -/

/-- The three rows of R198 keep the ring within 48 records. -/
theorem Log.enter_length_le (l : Log) (r : LogRecord) (h : l.ring.length ≤ 48) : (l.enter r).ring.length ≤ 48 := by
  unfold Log.enter
  split
  · simp only [List.length_append, List.length_cons, List.length_nil]; omega
  · split <;> simp only [List.length_append, List.length_cons, List.length_nil, List.length_tail] <;> omega

/-- The unread records stay among the records held. -/
theorem Log.enter_unread_le (l : Log) (r : LogRecord) (h : l.ring.length ≤ 48) (hu : l.unread ≤ l.ring.length) :
    (l.enter r).unread ≤ (l.enter r).ring.length := by
  unfold Log.enter
  split
  · simp only [List.length_append, List.length_cons, List.length_nil]; omega
  · split <;> simp only [List.length_append, List.length_cons, List.length_nil, List.length_tail] <;> omega

/-- The record entered is the newest. -/
theorem Log.enter_getLast (l : Log) (r : LogRecord) : (l.enter r).ring.getLast? = some r := by
  unfold Log.enter
  split
  · simp
  · split <;> simp

/-! ## Entries -/

/-- Entries of one event, nothing but entries: the relation that every block's records keep. -/
def grows (now : Time) (l l' : Log) : Prop := logged now l [] l'

theorem grows_refl (now : Time) (l : Log) : grows now l l := ⟨[], by simp, rfl⟩

theorem grows_trans {now : Time} {a b c : Log} (h : grows now a b) (k : grows now b c) : grows now a c := by
  obtain ⟨m, hm, rfl⟩ := h
  obtain ⟨n, hn, rfl⟩ := k
  refine ⟨m ++ n, ?_, by simp [List.foldl_append]⟩
  intro r hr
  rcases List.mem_append.1 hr with h | h
  · exact hm r h
  · exact hn r h

/-- A record first, then whatever else the event logs. -/
theorem logged_of_grows {now : Time} {a c : Log} {first : List LogRecord}
    (k : grows now (first.foldl Log.enter a) c) : logged now a first c := by
  obtain ⟨n, hn, rfl⟩ := k
  exact ⟨n, hn, by simp [List.foldl_append]⟩

/-- Entries keep the ring within its bounds. -/
theorem foldl_enter_ok (rs : List LogRecord) (l : Log) (h : l.ring.length ≤ 48) (hu : l.unread ≤ l.ring.length) :
    (rs.foldl Log.enter l).ring.length ≤ 48 ∧ (rs.foldl Log.enter l).unread ≤ (rs.foldl Log.enter l).ring.length := by
  induction rs generalizing l with
  | nil => exact ⟨h, hu⟩
  | cons r rs ih => exact ih _ (Log.enter_length_le l r h) (Log.enter_unread_le l r h hu)

/-! ## `judgeAlert` and `enterLog`, field by field -/

@[simp] theorem judgeAlert_retention (s : State) : (judgeAlert s).retention = s.retention := by
  unfold judgeAlert; split <;> rfl
@[simp] theorem judgeAlert_pins (s : State) : (judgeAlert s).pins = s.pins := by
  unfold judgeAlert; split <;> rfl
@[simp] theorem judgeAlert_supply (s : State) : (judgeAlert s).supply = s.supply := by
  unfold judgeAlert; split <;> rfl
@[simp] theorem judgeAlert_monitor (s : State) : (judgeAlert s).monitor = s.monitor := by
  unfold judgeAlert; split <;> rfl
@[simp] theorem judgeAlert_protection (s : State) : (judgeAlert s).protection = s.protection := by
  unfold judgeAlert; split <;> rfl
@[simp] theorem judgeAlert_budget (s : State) : (judgeAlert s).budget = s.budget := by
  unfold judgeAlert; split <;> rfl
@[simp] theorem judgeAlert_radio (s : State) : (judgeAlert s).radio = s.radio := by
  unfold judgeAlert; split <;> rfl
@[simp] theorem judgeAlert_authority (s : State) : (judgeAlert s).authority = s.authority := by
  unfold judgeAlert; split <;> rfl
@[simp] theorem judgeAlert_interlock (s : State) : (judgeAlert s).interlock = s.interlock := by
  unfold judgeAlert; split <;> rfl
@[simp] theorem judgeAlert_steering (s : State) : (judgeAlert s).steering = s.steering := by
  unfold judgeAlert; split <;> rfl
@[simp] theorem judgeAlert_drive (s : State) : (judgeAlert s).drive = s.drive := by
  unfold judgeAlert; split <;> rfl
@[simp] theorem judgeAlert_winch (s : State) : (judgeAlert s).winch = s.winch := by
  unfold judgeAlert; split <;> rfl
@[simp] theorem judgeAlert_lights (s : State) : (judgeAlert s).lights = s.lights := by
  unfold judgeAlert; split <;> rfl
@[simp] theorem judgeAlert_assist (s : State) : (judgeAlert s).assist = s.assist := by
  unfold judgeAlert; split <;> rfl
@[simp] theorem judgeAlert_store (s : State) : (judgeAlert s).store = s.store := by
  unfold judgeAlert; split <;> rfl
@[simp] theorem judgeAlert_pending (s : State) : (judgeAlert s).pending = s.pending := by
  unfold judgeAlert; split <;> rfl
@[simp] theorem enterLog_pins (k : LogKind) (d : List Nat) (s : State) : (enterLog k d s).pins = s.pins := by
  unfold enterLog; rw [judgeAlert_pins]
@[simp] theorem enterLog_supply (k : LogKind) (d : List Nat) (s : State) : (enterLog k d s).supply = s.supply := by
  unfold enterLog; rw [judgeAlert_supply]
@[simp] theorem enterLog_monitor (k : LogKind) (d : List Nat) (s : State) : (enterLog k d s).monitor = s.monitor := by
  unfold enterLog; rw [judgeAlert_monitor]
@[simp] theorem enterLog_protection (k : LogKind) (d : List Nat) (s : State) : (enterLog k d s).protection = s.protection := by
  unfold enterLog; rw [judgeAlert_protection]
@[simp] theorem enterLog_budget (k : LogKind) (d : List Nat) (s : State) : (enterLog k d s).budget = s.budget := by
  unfold enterLog; rw [judgeAlert_budget]
@[simp] theorem enterLog_radio (k : LogKind) (d : List Nat) (s : State) : (enterLog k d s).radio = s.radio := by
  unfold enterLog; rw [judgeAlert_radio]
@[simp] theorem enterLog_authority (k : LogKind) (d : List Nat) (s : State) : (enterLog k d s).authority = s.authority := by
  unfold enterLog; rw [judgeAlert_authority]
@[simp] theorem enterLog_interlock (k : LogKind) (d : List Nat) (s : State) : (enterLog k d s).interlock = s.interlock := by
  unfold enterLog; rw [judgeAlert_interlock]
@[simp] theorem enterLog_steering (k : LogKind) (d : List Nat) (s : State) : (enterLog k d s).steering = s.steering := by
  unfold enterLog; rw [judgeAlert_steering]
@[simp] theorem enterLog_drive (k : LogKind) (d : List Nat) (s : State) : (enterLog k d s).drive = s.drive := by
  unfold enterLog; rw [judgeAlert_drive]
@[simp] theorem enterLog_winch (k : LogKind) (d : List Nat) (s : State) : (enterLog k d s).winch = s.winch := by
  unfold enterLog; rw [judgeAlert_winch]
@[simp] theorem enterLog_lights (k : LogKind) (d : List Nat) (s : State) : (enterLog k d s).lights = s.lights := by
  unfold enterLog; rw [judgeAlert_lights]
@[simp] theorem enterLog_assist (k : LogKind) (d : List Nat) (s : State) : (enterLog k d s).assist = s.assist := by
  unfold enterLog; rw [judgeAlert_assist]
@[simp] theorem enterLog_store (k : LogKind) (d : List Nat) (s : State) : (enterLog k d s).store = s.store := by
  unfold enterLog; rw [judgeAlert_store]
@[simp] theorem enterLog_pending (k : LogKind) (d : List Nat) (s : State) : (enterLog k d s).pending = s.pending := by
  unfold enterLog; rw [judgeAlert_pending]

/-- What an entry writes in the Retention Domain: the log, and nothing else. -/
@[simp] theorem enterLog_retention (k : LogKind) (d : List Nat) (s : State) :
    (enterLog k d s).retention = { s.retention with log := s.retention.log.enter (record s k d) } := by
  unfold enterLog; rw [judgeAlert_retention]; rfl

@[simp] theorem enterLog_now (k : LogKind) (d : List Nat) (s : State) : (enterLog k d s).now = s.now := by
  simp [State.now]

@[simp] theorem enterLog_cfg (k : LogKind) (d : List Nat) (s : State) : (enterLog k d s).cfg = s.cfg := by
  simp [State.cfg]

@[simp] theorem enterLog_powered (k : LogKind) (d : List Nat) (s : State) : (enterLog k d s).powered = s.powered := by
  simp [State.powered]

/-- Judging ALERT settles it (R201). -/
theorem judgeAlert_alertOk (s : State) : AlertOk (judgeAlert s) := by
  intro h
  have hp : s.powered = true := by simpa [State.powered] using h
  simp [judgeAlert, hp, State.cfg]

/-- An entry settles ALERT (R201). -/
theorem enterLog_alertOk (k : LogKind) (d : List Nat) (s : State) : AlertOk (enterLog k d s) := judgeAlert_alertOk _

/-- An entry keeps the ring within its bounds (R198). -/
theorem enterLog_logOk (k : LogKind) (d : List Nat) (s : State) (h : LogOk s) : LogOk (enterLog k d s) := by
  unfold LogOk at *
  rw [enterLog_retention]
  exact ⟨Log.enter_length_le _ _ h.1, Log.enter_unread_le _ _ h.1 h.2⟩

end Sys2Proof.Machine
end

