-- ==== Sys2Proof/Laws/State.lean ====
section
/-! SUPPORT. One lemma per field of State and per update of one block: the update leaves every other field as it was. All are
true by unfolding the update, so no later proof unfolds a record update for a field it does not touch. -/
namespace Sys2Proof.Machine

/-! `clearRetention` -/

@[simp] theorem clearRetention_pins (s : State) : (clearRetention s).pins = s.pins := rfl
@[simp] theorem clearRetention_supply (s : State) : (clearRetention s).supply = s.supply := rfl
@[simp] theorem clearRetention_monitor (s : State) : (clearRetention s).monitor = s.monitor := rfl
@[simp] theorem clearRetention_protection (s : State) : (clearRetention s).protection = s.protection := rfl
@[simp] theorem clearRetention_budget (s : State) : (clearRetention s).budget = s.budget := rfl
@[simp] theorem clearRetention_radio (s : State) : (clearRetention s).radio = s.radio := rfl
@[simp] theorem clearRetention_authority (s : State) : (clearRetention s).authority = s.authority := rfl
@[simp] theorem clearRetention_interlock (s : State) : (clearRetention s).interlock = s.interlock := rfl
@[simp] theorem clearRetention_steering (s : State) : (clearRetention s).steering = s.steering := rfl
@[simp] theorem clearRetention_drive (s : State) : (clearRetention s).drive = s.drive := rfl
@[simp] theorem clearRetention_winch (s : State) : (clearRetention s).winch = s.winch := rfl
@[simp] theorem clearRetention_lights (s : State) : (clearRetention s).lights = s.lights := rfl
@[simp] theorem clearRetention_assist (s : State) : (clearRetention s).assist = s.assist := rfl
@[simp] theorem clearRetention_store (s : State) : (clearRetention s).store = s.store := rfl
@[simp] theorem clearRetention_alert (s : State) : (clearRetention s).alert = s.alert := rfl
@[simp] theorem clearRetention_pending (s : State) : (clearRetention s).pending = s.pending := rfl

/-! `updateIdentity` -/

@[simp] theorem updateIdentity_pins (f : Identity → Identity) (s : State) : (updateIdentity f s).pins = s.pins := rfl
@[simp] theorem updateIdentity_supply (f : Identity → Identity) (s : State) : (updateIdentity f s).supply = s.supply := rfl
@[simp] theorem updateIdentity_monitor (f : Identity → Identity) (s : State) : (updateIdentity f s).monitor = s.monitor := rfl
@[simp] theorem updateIdentity_protection (f : Identity → Identity) (s : State) : (updateIdentity f s).protection = s.protection := rfl
@[simp] theorem updateIdentity_budget (f : Identity → Identity) (s : State) : (updateIdentity f s).budget = s.budget := rfl
@[simp] theorem updateIdentity_radio (f : Identity → Identity) (s : State) : (updateIdentity f s).radio = s.radio := rfl
@[simp] theorem updateIdentity_authority (f : Identity → Identity) (s : State) : (updateIdentity f s).authority = s.authority := rfl
@[simp] theorem updateIdentity_interlock (f : Identity → Identity) (s : State) : (updateIdentity f s).interlock = s.interlock := rfl
@[simp] theorem updateIdentity_steering (f : Identity → Identity) (s : State) : (updateIdentity f s).steering = s.steering := rfl
@[simp] theorem updateIdentity_drive (f : Identity → Identity) (s : State) : (updateIdentity f s).drive = s.drive := rfl
@[simp] theorem updateIdentity_winch (f : Identity → Identity) (s : State) : (updateIdentity f s).winch = s.winch := rfl
@[simp] theorem updateIdentity_lights (f : Identity → Identity) (s : State) : (updateIdentity f s).lights = s.lights := rfl
@[simp] theorem updateIdentity_assist (f : Identity → Identity) (s : State) : (updateIdentity f s).assist = s.assist := rfl
@[simp] theorem updateIdentity_store (f : Identity → Identity) (s : State) : (updateIdentity f s).store = s.store := rfl
@[simp] theorem updateIdentity_alert (f : Identity → Identity) (s : State) : (updateIdentity f s).alert = s.alert := rfl
@[simp] theorem updateIdentity_pending (f : Identity → Identity) (s : State) : (updateIdentity f s).pending = s.pending := rfl

/-! `setVoltageLevel` -/

@[simp] theorem setVoltageLevel_pins (l : Level) (s : State) : (setVoltageLevel l s).pins = s.pins := rfl
@[simp] theorem setVoltageLevel_supply (l : Level) (s : State) : (setVoltageLevel l s).supply = s.supply := rfl
@[simp] theorem setVoltageLevel_monitor (l : Level) (s : State) : (setVoltageLevel l s).monitor = s.monitor := rfl
@[simp] theorem setVoltageLevel_protection (l : Level) (s : State) : (setVoltageLevel l s).protection = s.protection := rfl
@[simp] theorem setVoltageLevel_budget (l : Level) (s : State) : (setVoltageLevel l s).budget = s.budget := rfl
@[simp] theorem setVoltageLevel_radio (l : Level) (s : State) : (setVoltageLevel l s).radio = s.radio := rfl
@[simp] theorem setVoltageLevel_authority (l : Level) (s : State) : (setVoltageLevel l s).authority = s.authority := rfl
@[simp] theorem setVoltageLevel_interlock (l : Level) (s : State) : (setVoltageLevel l s).interlock = s.interlock := rfl
@[simp] theorem setVoltageLevel_steering (l : Level) (s : State) : (setVoltageLevel l s).steering = s.steering := rfl
@[simp] theorem setVoltageLevel_drive (l : Level) (s : State) : (setVoltageLevel l s).drive = s.drive := rfl
@[simp] theorem setVoltageLevel_winch (l : Level) (s : State) : (setVoltageLevel l s).winch = s.winch := rfl
@[simp] theorem setVoltageLevel_lights (l : Level) (s : State) : (setVoltageLevel l s).lights = s.lights := rfl
@[simp] theorem setVoltageLevel_assist (l : Level) (s : State) : (setVoltageLevel l s).assist = s.assist := rfl
@[simp] theorem setVoltageLevel_store (l : Level) (s : State) : (setVoltageLevel l s).store = s.store := rfl
@[simp] theorem setVoltageLevel_alert (l : Level) (s : State) : (setVoltageLevel l s).alert = s.alert := rfl
@[simp] theorem setVoltageLevel_pending (l : Level) (s : State) : (setVoltageLevel l s).pending = s.pending := rfl

/-! `accumulate` -/

@[simp] theorem accumulate_pins (i : Nat) (s : State) : (accumulate i s).pins = s.pins := rfl
@[simp] theorem accumulate_supply (i : Nat) (s : State) : (accumulate i s).supply = s.supply := rfl
@[simp] theorem accumulate_monitor (i : Nat) (s : State) : (accumulate i s).monitor = s.monitor := rfl
@[simp] theorem accumulate_protection (i : Nat) (s : State) : (accumulate i s).protection = s.protection := rfl
@[simp] theorem accumulate_budget (i : Nat) (s : State) : (accumulate i s).budget = s.budget := rfl
@[simp] theorem accumulate_radio (i : Nat) (s : State) : (accumulate i s).radio = s.radio := rfl
@[simp] theorem accumulate_authority (i : Nat) (s : State) : (accumulate i s).authority = s.authority := rfl
@[simp] theorem accumulate_interlock (i : Nat) (s : State) : (accumulate i s).interlock = s.interlock := rfl
@[simp] theorem accumulate_steering (i : Nat) (s : State) : (accumulate i s).steering = s.steering := rfl
@[simp] theorem accumulate_drive (i : Nat) (s : State) : (accumulate i s).drive = s.drive := rfl
@[simp] theorem accumulate_winch (i : Nat) (s : State) : (accumulate i s).winch = s.winch := rfl
@[simp] theorem accumulate_lights (i : Nat) (s : State) : (accumulate i s).lights = s.lights := rfl
@[simp] theorem accumulate_assist (i : Nat) (s : State) : (accumulate i s).assist = s.assist := rfl
@[simp] theorem accumulate_store (i : Nat) (s : State) : (accumulate i s).store = s.store := rfl
@[simp] theorem accumulate_alert (i : Nat) (s : State) : (accumulate i s).alert = s.alert := rfl
@[simp] theorem accumulate_pending (i : Nat) (s : State) : (accumulate i s).pending = s.pending := rfl

/-! `writeDisconnect` -/

@[simp] theorem writeDisconnect_pins (s : State) : (writeDisconnect s).pins = s.pins := rfl
@[simp] theorem writeDisconnect_supply (s : State) : (writeDisconnect s).supply = s.supply := rfl
@[simp] theorem writeDisconnect_monitor (s : State) : (writeDisconnect s).monitor = s.monitor := rfl
@[simp] theorem writeDisconnect_protection (s : State) : (writeDisconnect s).protection = s.protection := rfl
@[simp] theorem writeDisconnect_budget (s : State) : (writeDisconnect s).budget = s.budget := rfl
@[simp] theorem writeDisconnect_radio (s : State) : (writeDisconnect s).radio = s.radio := rfl
@[simp] theorem writeDisconnect_authority (s : State) : (writeDisconnect s).authority = s.authority := rfl
@[simp] theorem writeDisconnect_interlock (s : State) : (writeDisconnect s).interlock = s.interlock := rfl
@[simp] theorem writeDisconnect_steering (s : State) : (writeDisconnect s).steering = s.steering := rfl
@[simp] theorem writeDisconnect_drive (s : State) : (writeDisconnect s).drive = s.drive := rfl
@[simp] theorem writeDisconnect_winch (s : State) : (writeDisconnect s).winch = s.winch := rfl
@[simp] theorem writeDisconnect_lights (s : State) : (writeDisconnect s).lights = s.lights := rfl
@[simp] theorem writeDisconnect_assist (s : State) : (writeDisconnect s).assist = s.assist := rfl
@[simp] theorem writeDisconnect_store (s : State) : (writeDisconnect s).store = s.store := rfl
@[simp] theorem writeDisconnect_alert (s : State) : (writeDisconnect s).alert = s.alert := rfl
@[simp] theorem writeDisconnect_pending (s : State) : (writeDisconnect s).pending = s.pending := rfl

/-! `clearCauses` -/

@[simp] theorem clearCauses_pins (s : State) : (clearCauses s).pins = s.pins := rfl
@[simp] theorem clearCauses_supply (s : State) : (clearCauses s).supply = s.supply := rfl
@[simp] theorem clearCauses_monitor (s : State) : (clearCauses s).monitor = s.monitor := rfl
@[simp] theorem clearCauses_protection (s : State) : (clearCauses s).protection = s.protection := rfl
@[simp] theorem clearCauses_budget (s : State) : (clearCauses s).budget = s.budget := rfl
@[simp] theorem clearCauses_radio (s : State) : (clearCauses s).radio = s.radio := rfl
@[simp] theorem clearCauses_authority (s : State) : (clearCauses s).authority = s.authority := rfl
@[simp] theorem clearCauses_interlock (s : State) : (clearCauses s).interlock = s.interlock := rfl
@[simp] theorem clearCauses_steering (s : State) : (clearCauses s).steering = s.steering := rfl
@[simp] theorem clearCauses_drive (s : State) : (clearCauses s).drive = s.drive := rfl
@[simp] theorem clearCauses_winch (s : State) : (clearCauses s).winch = s.winch := rfl
@[simp] theorem clearCauses_lights (s : State) : (clearCauses s).lights = s.lights := rfl
@[simp] theorem clearCauses_assist (s : State) : (clearCauses s).assist = s.assist := rfl
@[simp] theorem clearCauses_store (s : State) : (clearCauses s).store = s.store := rfl
@[simp] theorem clearCauses_alert (s : State) : (clearCauses s).alert = s.alert := rfl
@[simp] theorem clearCauses_pending (s : State) : (clearCauses s).pending = s.pending := rfl

/-! `readNone` -/

@[simp] theorem readNone_pins (s : State) : (readNone s).pins = s.pins := rfl
@[simp] theorem readNone_supply (s : State) : (readNone s).supply = s.supply := rfl
@[simp] theorem readNone_monitor (s : State) : (readNone s).monitor = s.monitor := rfl
@[simp] theorem readNone_protection (s : State) : (readNone s).protection = s.protection := rfl
@[simp] theorem readNone_budget (s : State) : (readNone s).budget = s.budget := rfl
@[simp] theorem readNone_radio (s : State) : (readNone s).radio = s.radio := rfl
@[simp] theorem readNone_authority (s : State) : (readNone s).authority = s.authority := rfl
@[simp] theorem readNone_interlock (s : State) : (readNone s).interlock = s.interlock := rfl
@[simp] theorem readNone_steering (s : State) : (readNone s).steering = s.steering := rfl
@[simp] theorem readNone_drive (s : State) : (readNone s).drive = s.drive := rfl
@[simp] theorem readNone_winch (s : State) : (readNone s).winch = s.winch := rfl
@[simp] theorem readNone_lights (s : State) : (readNone s).lights = s.lights := rfl
@[simp] theorem readNone_assist (s : State) : (readNone s).assist = s.assist := rfl
@[simp] theorem readNone_store (s : State) : (readNone s).store = s.store := rfl
@[simp] theorem readNone_alert (s : State) : (readNone s).alert = s.alert := rfl
@[simp] theorem readNone_pending (s : State) : (readNone s).pending = s.pending := rfl

/-! `restartIdle` -/

@[simp] theorem restartIdle_retention (s : State) : (restartIdle s).retention = s.retention := rfl
@[simp] theorem restartIdle_pins (s : State) : (restartIdle s).pins = s.pins := rfl
@[simp] theorem restartIdle_monitor (s : State) : (restartIdle s).monitor = s.monitor := rfl
@[simp] theorem restartIdle_protection (s : State) : (restartIdle s).protection = s.protection := rfl
@[simp] theorem restartIdle_budget (s : State) : (restartIdle s).budget = s.budget := rfl
@[simp] theorem restartIdle_radio (s : State) : (restartIdle s).radio = s.radio := rfl
@[simp] theorem restartIdle_authority (s : State) : (restartIdle s).authority = s.authority := rfl
@[simp] theorem restartIdle_interlock (s : State) : (restartIdle s).interlock = s.interlock := rfl
@[simp] theorem restartIdle_steering (s : State) : (restartIdle s).steering = s.steering := rfl
@[simp] theorem restartIdle_drive (s : State) : (restartIdle s).drive = s.drive := rfl
@[simp] theorem restartIdle_winch (s : State) : (restartIdle s).winch = s.winch := rfl
@[simp] theorem restartIdle_lights (s : State) : (restartIdle s).lights = s.lights := rfl
@[simp] theorem restartIdle_assist (s : State) : (restartIdle s).assist = s.assist := rfl
@[simp] theorem restartIdle_store (s : State) : (restartIdle s).store = s.store := rfl
@[simp] theorem restartIdle_alert (s : State) : (restartIdle s).alert = s.alert := rfl
@[simp] theorem restartIdle_pending (s : State) : (restartIdle s).pending = s.pending := rfl

/-! `setRail` -/

@[simp] theorem setRail_retention (r : Rail) (w : Option Timer) (s : State) : (setRail r w s).retention = s.retention := rfl
@[simp] theorem setRail_pins (r : Rail) (w : Option Timer) (s : State) : (setRail r w s).pins = s.pins := rfl
@[simp] theorem setRail_monitor (r : Rail) (w : Option Timer) (s : State) : (setRail r w s).monitor = s.monitor := rfl
@[simp] theorem setRail_protection (r : Rail) (w : Option Timer) (s : State) : (setRail r w s).protection = s.protection := rfl
@[simp] theorem setRail_budget (r : Rail) (w : Option Timer) (s : State) : (setRail r w s).budget = s.budget := rfl
@[simp] theorem setRail_radio (r : Rail) (w : Option Timer) (s : State) : (setRail r w s).radio = s.radio := rfl
@[simp] theorem setRail_authority (r : Rail) (w : Option Timer) (s : State) : (setRail r w s).authority = s.authority := rfl
@[simp] theorem setRail_interlock (r : Rail) (w : Option Timer) (s : State) : (setRail r w s).interlock = s.interlock := rfl
@[simp] theorem setRail_steering (r : Rail) (w : Option Timer) (s : State) : (setRail r w s).steering = s.steering := rfl
@[simp] theorem setRail_drive (r : Rail) (w : Option Timer) (s : State) : (setRail r w s).drive = s.drive := rfl
@[simp] theorem setRail_winch (r : Rail) (w : Option Timer) (s : State) : (setRail r w s).winch = s.winch := rfl
@[simp] theorem setRail_lights (r : Rail) (w : Option Timer) (s : State) : (setRail r w s).lights = s.lights := rfl
@[simp] theorem setRail_assist (r : Rail) (w : Option Timer) (s : State) : (setRail r w s).assist = s.assist := rfl
@[simp] theorem setRail_store (r : Rail) (w : Option Timer) (s : State) : (setRail r w s).store = s.store := rfl
@[simp] theorem setRail_alert (r : Rail) (w : Option Timer) (s : State) : (setRail r w s).alert = s.alert := rfl
@[simp] theorem setRail_pending (r : Rail) (w : Option Timer) (s : State) : (setRail r w s).pending = s.pending := rfl

/-! `recordSet` -/

@[simp] theorem recordSet_retention (v i sv w : Nat) (s : State) : (recordSet v i sv w s).retention = s.retention := rfl
@[simp] theorem recordSet_pins (v i sv w : Nat) (s : State) : (recordSet v i sv w s).pins = s.pins := rfl
@[simp] theorem recordSet_supply (v i sv w : Nat) (s : State) : (recordSet v i sv w s).supply = s.supply := rfl
@[simp] theorem recordSet_protection (v i sv w : Nat) (s : State) : (recordSet v i sv w s).protection = s.protection := rfl
@[simp] theorem recordSet_budget (v i sv w : Nat) (s : State) : (recordSet v i sv w s).budget = s.budget := rfl
@[simp] theorem recordSet_radio (v i sv w : Nat) (s : State) : (recordSet v i sv w s).radio = s.radio := rfl
@[simp] theorem recordSet_authority (v i sv w : Nat) (s : State) : (recordSet v i sv w s).authority = s.authority := rfl
@[simp] theorem recordSet_interlock (v i sv w : Nat) (s : State) : (recordSet v i sv w s).interlock = s.interlock := rfl
@[simp] theorem recordSet_steering (v i sv w : Nat) (s : State) : (recordSet v i sv w s).steering = s.steering := rfl
@[simp] theorem recordSet_drive (v i sv w : Nat) (s : State) : (recordSet v i sv w s).drive = s.drive := rfl
@[simp] theorem recordSet_winch (v i sv w : Nat) (s : State) : (recordSet v i sv w s).winch = s.winch := rfl
@[simp] theorem recordSet_lights (v i sv w : Nat) (s : State) : (recordSet v i sv w s).lights = s.lights := rfl
@[simp] theorem recordSet_assist (v i sv w : Nat) (s : State) : (recordSet v i sv w s).assist = s.assist := rfl
@[simp] theorem recordSet_store (v i sv w : Nat) (s : State) : (recordSet v i sv w s).store = s.store := rfl
@[simp] theorem recordSet_alert (v i sv w : Nat) (s : State) : (recordSet v i sv w s).alert = s.alert := rfl
@[simp] theorem recordSet_pending (v i sv w : Nat) (s : State) : (recordSet v i sv w s).pending = s.pending := rfl

/-! `deriveEnergyFigures` -/

@[simp] theorem deriveEnergyFigures_retention (s : State) : (deriveEnergyFigures s).retention = s.retention := rfl
@[simp] theorem deriveEnergyFigures_pins (s : State) : (deriveEnergyFigures s).pins = s.pins := rfl
@[simp] theorem deriveEnergyFigures_supply (s : State) : (deriveEnergyFigures s).supply = s.supply := rfl
@[simp] theorem deriveEnergyFigures_protection (s : State) : (deriveEnergyFigures s).protection = s.protection := rfl
@[simp] theorem deriveEnergyFigures_budget (s : State) : (deriveEnergyFigures s).budget = s.budget := rfl
@[simp] theorem deriveEnergyFigures_radio (s : State) : (deriveEnergyFigures s).radio = s.radio := rfl
@[simp] theorem deriveEnergyFigures_authority (s : State) : (deriveEnergyFigures s).authority = s.authority := rfl
@[simp] theorem deriveEnergyFigures_interlock (s : State) : (deriveEnergyFigures s).interlock = s.interlock := rfl
@[simp] theorem deriveEnergyFigures_steering (s : State) : (deriveEnergyFigures s).steering = s.steering := rfl
@[simp] theorem deriveEnergyFigures_drive (s : State) : (deriveEnergyFigures s).drive = s.drive := rfl
@[simp] theorem deriveEnergyFigures_winch (s : State) : (deriveEnergyFigures s).winch = s.winch := rfl
@[simp] theorem deriveEnergyFigures_lights (s : State) : (deriveEnergyFigures s).lights = s.lights := rfl
@[simp] theorem deriveEnergyFigures_assist (s : State) : (deriveEnergyFigures s).assist = s.assist := rfl
@[simp] theorem deriveEnergyFigures_store (s : State) : (deriveEnergyFigures s).store = s.store := rfl
@[simp] theorem deriveEnergyFigures_alert (s : State) : (deriveEnergyFigures s).alert = s.alert := rfl
@[simp] theorem deriveEnergyFigures_pending (s : State) : (deriveEnergyFigures s).pending = s.pending := rfl

/-! `becomePrevious` -/

@[simp] theorem becomePrevious_retention (s : State) : (becomePrevious s).retention = s.retention := rfl
@[simp] theorem becomePrevious_pins (s : State) : (becomePrevious s).pins = s.pins := rfl
@[simp] theorem becomePrevious_supply (s : State) : (becomePrevious s).supply = s.supply := rfl
@[simp] theorem becomePrevious_protection (s : State) : (becomePrevious s).protection = s.protection := rfl
@[simp] theorem becomePrevious_budget (s : State) : (becomePrevious s).budget = s.budget := rfl
@[simp] theorem becomePrevious_radio (s : State) : (becomePrevious s).radio = s.radio := rfl
@[simp] theorem becomePrevious_authority (s : State) : (becomePrevious s).authority = s.authority := rfl
@[simp] theorem becomePrevious_interlock (s : State) : (becomePrevious s).interlock = s.interlock := rfl
@[simp] theorem becomePrevious_steering (s : State) : (becomePrevious s).steering = s.steering := rfl
@[simp] theorem becomePrevious_drive (s : State) : (becomePrevious s).drive = s.drive := rfl
@[simp] theorem becomePrevious_winch (s : State) : (becomePrevious s).winch = s.winch := rfl
@[simp] theorem becomePrevious_lights (s : State) : (becomePrevious s).lights = s.lights := rfl
@[simp] theorem becomePrevious_assist (s : State) : (becomePrevious s).assist = s.assist := rfl
@[simp] theorem becomePrevious_store (s : State) : (becomePrevious s).store = s.store := rfl
@[simp] theorem becomePrevious_alert (s : State) : (becomePrevious s).alert = s.alert := rfl
@[simp] theorem becomePrevious_pending (s : State) : (becomePrevious s).pending = s.pending := rfl

/-! `sampleClock` -/

@[simp] theorem sampleClock_retention (s : State) : (sampleClock s).retention = s.retention := rfl
@[simp] theorem sampleClock_pins (s : State) : (sampleClock s).pins = s.pins := rfl
@[simp] theorem sampleClock_supply (s : State) : (sampleClock s).supply = s.supply := rfl
@[simp] theorem sampleClock_protection (s : State) : (sampleClock s).protection = s.protection := rfl
@[simp] theorem sampleClock_budget (s : State) : (sampleClock s).budget = s.budget := rfl
@[simp] theorem sampleClock_radio (s : State) : (sampleClock s).radio = s.radio := rfl
@[simp] theorem sampleClock_authority (s : State) : (sampleClock s).authority = s.authority := rfl
@[simp] theorem sampleClock_interlock (s : State) : (sampleClock s).interlock = s.interlock := rfl
@[simp] theorem sampleClock_steering (s : State) : (sampleClock s).steering = s.steering := rfl
@[simp] theorem sampleClock_drive (s : State) : (sampleClock s).drive = s.drive := rfl
@[simp] theorem sampleClock_winch (s : State) : (sampleClock s).winch = s.winch := rfl
@[simp] theorem sampleClock_lights (s : State) : (sampleClock s).lights = s.lights := rfl
@[simp] theorem sampleClock_assist (s : State) : (sampleClock s).assist = s.assist := rfl
@[simp] theorem sampleClock_store (s : State) : (sampleClock s).store = s.store := rfl
@[simp] theorem sampleClock_alert (s : State) : (sampleClock s).alert = s.alert := rfl
@[simp] theorem sampleClock_pending (s : State) : (sampleClock s).pending = s.pending := rfl

/-! `restartSampling` -/

@[simp] theorem restartSampling_retention (s : State) : (restartSampling s).retention = s.retention := rfl
@[simp] theorem restartSampling_pins (s : State) : (restartSampling s).pins = s.pins := rfl
@[simp] theorem restartSampling_supply (s : State) : (restartSampling s).supply = s.supply := rfl
@[simp] theorem restartSampling_protection (s : State) : (restartSampling s).protection = s.protection := rfl
@[simp] theorem restartSampling_budget (s : State) : (restartSampling s).budget = s.budget := rfl
@[simp] theorem restartSampling_radio (s : State) : (restartSampling s).radio = s.radio := rfl
@[simp] theorem restartSampling_authority (s : State) : (restartSampling s).authority = s.authority := rfl
@[simp] theorem restartSampling_interlock (s : State) : (restartSampling s).interlock = s.interlock := rfl
@[simp] theorem restartSampling_steering (s : State) : (restartSampling s).steering = s.steering := rfl
@[simp] theorem restartSampling_drive (s : State) : (restartSampling s).drive = s.drive := rfl
@[simp] theorem restartSampling_winch (s : State) : (restartSampling s).winch = s.winch := rfl
@[simp] theorem restartSampling_lights (s : State) : (restartSampling s).lights = s.lights := rfl
@[simp] theorem restartSampling_assist (s : State) : (restartSampling s).assist = s.assist := rfl
@[simp] theorem restartSampling_store (s : State) : (restartSampling s).store = s.store := rfl
@[simp] theorem restartSampling_alert (s : State) : (restartSampling s).alert = s.alert := rfl
@[simp] theorem restartSampling_pending (s : State) : (restartSampling s).pending = s.pending := rfl

/-! `setRising` -/

@[simp] theorem setRising_retention (t : Option Time) (s : State) : (setRising t s).retention = s.retention := rfl
@[simp] theorem setRising_pins (t : Option Time) (s : State) : (setRising t s).pins = s.pins := rfl
@[simp] theorem setRising_supply (t : Option Time) (s : State) : (setRising t s).supply = s.supply := rfl
@[simp] theorem setRising_monitor (t : Option Time) (s : State) : (setRising t s).monitor = s.monitor := rfl
@[simp] theorem setRising_budget (t : Option Time) (s : State) : (setRising t s).budget = s.budget := rfl
@[simp] theorem setRising_radio (t : Option Time) (s : State) : (setRising t s).radio = s.radio := rfl
@[simp] theorem setRising_authority (t : Option Time) (s : State) : (setRising t s).authority = s.authority := rfl
@[simp] theorem setRising_interlock (t : Option Time) (s : State) : (setRising t s).interlock = s.interlock := rfl
@[simp] theorem setRising_steering (t : Option Time) (s : State) : (setRising t s).steering = s.steering := rfl
@[simp] theorem setRising_drive (t : Option Time) (s : State) : (setRising t s).drive = s.drive := rfl
@[simp] theorem setRising_winch (t : Option Time) (s : State) : (setRising t s).winch = s.winch := rfl
@[simp] theorem setRising_lights (t : Option Time) (s : State) : (setRising t s).lights = s.lights := rfl
@[simp] theorem setRising_assist (t : Option Time) (s : State) : (setRising t s).assist = s.assist := rfl
@[simp] theorem setRising_store (t : Option Time) (s : State) : (setRising t s).store = s.store := rfl
@[simp] theorem setRising_alert (t : Option Time) (s : State) : (setRising t s).alert = s.alert := rfl
@[simp] theorem setRising_pending (t : Option Time) (s : State) : (setRising t s).pending = s.pending := rfl

/-! `deriveEnergyLevel` -/

@[simp] theorem deriveEnergyLevel_retention (s : State) : (deriveEnergyLevel s).retention = s.retention := rfl
@[simp] theorem deriveEnergyLevel_pins (s : State) : (deriveEnergyLevel s).pins = s.pins := rfl
@[simp] theorem deriveEnergyLevel_supply (s : State) : (deriveEnergyLevel s).supply = s.supply := rfl
@[simp] theorem deriveEnergyLevel_monitor (s : State) : (deriveEnergyLevel s).monitor = s.monitor := rfl
@[simp] theorem deriveEnergyLevel_budget (s : State) : (deriveEnergyLevel s).budget = s.budget := rfl
@[simp] theorem deriveEnergyLevel_radio (s : State) : (deriveEnergyLevel s).radio = s.radio := rfl
@[simp] theorem deriveEnergyLevel_authority (s : State) : (deriveEnergyLevel s).authority = s.authority := rfl
@[simp] theorem deriveEnergyLevel_interlock (s : State) : (deriveEnergyLevel s).interlock = s.interlock := rfl
@[simp] theorem deriveEnergyLevel_steering (s : State) : (deriveEnergyLevel s).steering = s.steering := rfl
@[simp] theorem deriveEnergyLevel_drive (s : State) : (deriveEnergyLevel s).drive = s.drive := rfl
@[simp] theorem deriveEnergyLevel_winch (s : State) : (deriveEnergyLevel s).winch = s.winch := rfl
@[simp] theorem deriveEnergyLevel_lights (s : State) : (deriveEnergyLevel s).lights = s.lights := rfl
@[simp] theorem deriveEnergyLevel_assist (s : State) : (deriveEnergyLevel s).assist = s.assist := rfl
@[simp] theorem deriveEnergyLevel_store (s : State) : (deriveEnergyLevel s).store = s.store := rfl
@[simp] theorem deriveEnergyLevel_alert (s : State) : (deriveEnergyLevel s).alert = s.alert := rfl
@[simp] theorem deriveEnergyLevel_pending (s : State) : (deriveEnergyLevel s).pending = s.pending := rfl

/-! `publishAllotment` -/

@[simp] theorem publishAllotment_retention (s : State) : (publishAllotment s).retention = s.retention := rfl
@[simp] theorem publishAllotment_pins (s : State) : (publishAllotment s).pins = s.pins := rfl
@[simp] theorem publishAllotment_supply (s : State) : (publishAllotment s).supply = s.supply := rfl
@[simp] theorem publishAllotment_monitor (s : State) : (publishAllotment s).monitor = s.monitor := rfl
@[simp] theorem publishAllotment_protection (s : State) : (publishAllotment s).protection = s.protection := rfl
@[simp] theorem publishAllotment_radio (s : State) : (publishAllotment s).radio = s.radio := rfl
@[simp] theorem publishAllotment_authority (s : State) : (publishAllotment s).authority = s.authority := rfl
@[simp] theorem publishAllotment_interlock (s : State) : (publishAllotment s).interlock = s.interlock := rfl
@[simp] theorem publishAllotment_steering (s : State) : (publishAllotment s).steering = s.steering := rfl
@[simp] theorem publishAllotment_drive (s : State) : (publishAllotment s).drive = s.drive := rfl
@[simp] theorem publishAllotment_winch (s : State) : (publishAllotment s).winch = s.winch := rfl
@[simp] theorem publishAllotment_lights (s : State) : (publishAllotment s).lights = s.lights := rfl
@[simp] theorem publishAllotment_assist (s : State) : (publishAllotment s).assist = s.assist := rfl
@[simp] theorem publishAllotment_store (s : State) : (publishAllotment s).store = s.store := rfl
@[simp] theorem publishAllotment_alert (s : State) : (publishAllotment s).alert = s.alert := rfl
@[simp] theorem publishAllotment_pending (s : State) : (publishAllotment s).pending = s.pending := rfl

/-! `recordFrame` -/

@[simp] theorem recordFrame_retention (fr : Frame) (s : State) : (recordFrame fr s).retention = s.retention := rfl
@[simp] theorem recordFrame_pins (fr : Frame) (s : State) : (recordFrame fr s).pins = s.pins := rfl
@[simp] theorem recordFrame_supply (fr : Frame) (s : State) : (recordFrame fr s).supply = s.supply := rfl
@[simp] theorem recordFrame_monitor (fr : Frame) (s : State) : (recordFrame fr s).monitor = s.monitor := rfl
@[simp] theorem recordFrame_protection (fr : Frame) (s : State) : (recordFrame fr s).protection = s.protection := rfl
@[simp] theorem recordFrame_budget (fr : Frame) (s : State) : (recordFrame fr s).budget = s.budget := rfl
@[simp] theorem recordFrame_authority (fr : Frame) (s : State) : (recordFrame fr s).authority = s.authority := rfl
@[simp] theorem recordFrame_interlock (fr : Frame) (s : State) : (recordFrame fr s).interlock = s.interlock := rfl
@[simp] theorem recordFrame_steering (fr : Frame) (s : State) : (recordFrame fr s).steering = s.steering := rfl
@[simp] theorem recordFrame_drive (fr : Frame) (s : State) : (recordFrame fr s).drive = s.drive := rfl
@[simp] theorem recordFrame_winch (fr : Frame) (s : State) : (recordFrame fr s).winch = s.winch := rfl
@[simp] theorem recordFrame_lights (fr : Frame) (s : State) : (recordFrame fr s).lights = s.lights := rfl
@[simp] theorem recordFrame_assist (fr : Frame) (s : State) : (recordFrame fr s).assist = s.assist := rfl
@[simp] theorem recordFrame_store (fr : Frame) (s : State) : (recordFrame fr s).store = s.store := rfl
@[simp] theorem recordFrame_alert (fr : Frame) (s : State) : (recordFrame fr s).alert = s.alert := rfl
@[simp] theorem recordFrame_pending (fr : Frame) (s : State) : (recordFrame fr s).pending = s.pending := rfl

/-! `valuesFromFrame` -/

@[simp] theorem valuesFromFrame_retention (fr : Frame) (s : State) : (valuesFromFrame fr s).retention = s.retention := rfl
@[simp] theorem valuesFromFrame_pins (fr : Frame) (s : State) : (valuesFromFrame fr s).pins = s.pins := rfl
@[simp] theorem valuesFromFrame_supply (fr : Frame) (s : State) : (valuesFromFrame fr s).supply = s.supply := rfl
@[simp] theorem valuesFromFrame_monitor (fr : Frame) (s : State) : (valuesFromFrame fr s).monitor = s.monitor := rfl
@[simp] theorem valuesFromFrame_protection (fr : Frame) (s : State) : (valuesFromFrame fr s).protection = s.protection := rfl
@[simp] theorem valuesFromFrame_budget (fr : Frame) (s : State) : (valuesFromFrame fr s).budget = s.budget := rfl
@[simp] theorem valuesFromFrame_authority (fr : Frame) (s : State) : (valuesFromFrame fr s).authority = s.authority := rfl
@[simp] theorem valuesFromFrame_interlock (fr : Frame) (s : State) : (valuesFromFrame fr s).interlock = s.interlock := rfl
@[simp] theorem valuesFromFrame_steering (fr : Frame) (s : State) : (valuesFromFrame fr s).steering = s.steering := rfl
@[simp] theorem valuesFromFrame_drive (fr : Frame) (s : State) : (valuesFromFrame fr s).drive = s.drive := rfl
@[simp] theorem valuesFromFrame_winch (fr : Frame) (s : State) : (valuesFromFrame fr s).winch = s.winch := rfl
@[simp] theorem valuesFromFrame_lights (fr : Frame) (s : State) : (valuesFromFrame fr s).lights = s.lights := rfl
@[simp] theorem valuesFromFrame_assist (fr : Frame) (s : State) : (valuesFromFrame fr s).assist = s.assist := rfl
@[simp] theorem valuesFromFrame_store (fr : Frame) (s : State) : (valuesFromFrame fr s).store = s.store := rfl
@[simp] theorem valuesFromFrame_alert (fr : Frame) (s : State) : (valuesFromFrame fr s).alert = s.alert := rfl
@[simp] theorem valuesFromFrame_pending (fr : Frame) (s : State) : (valuesFromFrame fr s).pending = s.pending := rfl

/-! `valuesLost` -/

@[simp] theorem valuesLost_retention (s : State) : (valuesLost s).retention = s.retention := rfl
@[simp] theorem valuesLost_pins (s : State) : (valuesLost s).pins = s.pins := rfl
@[simp] theorem valuesLost_supply (s : State) : (valuesLost s).supply = s.supply := rfl
@[simp] theorem valuesLost_monitor (s : State) : (valuesLost s).monitor = s.monitor := rfl
@[simp] theorem valuesLost_protection (s : State) : (valuesLost s).protection = s.protection := rfl
@[simp] theorem valuesLost_budget (s : State) : (valuesLost s).budget = s.budget := rfl
@[simp] theorem valuesLost_authority (s : State) : (valuesLost s).authority = s.authority := rfl
@[simp] theorem valuesLost_interlock (s : State) : (valuesLost s).interlock = s.interlock := rfl
@[simp] theorem valuesLost_steering (s : State) : (valuesLost s).steering = s.steering := rfl
@[simp] theorem valuesLost_drive (s : State) : (valuesLost s).drive = s.drive := rfl
@[simp] theorem valuesLost_winch (s : State) : (valuesLost s).winch = s.winch := rfl
@[simp] theorem valuesLost_lights (s : State) : (valuesLost s).lights = s.lights := rfl
@[simp] theorem valuesLost_assist (s : State) : (valuesLost s).assist = s.assist := rfl
@[simp] theorem valuesLost_store (s : State) : (valuesLost s).store = s.store := rfl
@[simp] theorem valuesLost_alert (s : State) : (valuesLost s).alert = s.alert := rfl
@[simp] theorem valuesLost_pending (s : State) : (valuesLost s).pending = s.pending := rfl

/-! `clearGestures` -/

@[simp] theorem clearGestures_retention (s : State) : (clearGestures s).retention = s.retention := rfl
@[simp] theorem clearGestures_pins (s : State) : (clearGestures s).pins = s.pins := rfl
@[simp] theorem clearGestures_supply (s : State) : (clearGestures s).supply = s.supply := rfl
@[simp] theorem clearGestures_monitor (s : State) : (clearGestures s).monitor = s.monitor := rfl
@[simp] theorem clearGestures_protection (s : State) : (clearGestures s).protection = s.protection := rfl
@[simp] theorem clearGestures_budget (s : State) : (clearGestures s).budget = s.budget := rfl
@[simp] theorem clearGestures_authority (s : State) : (clearGestures s).authority = s.authority := rfl
@[simp] theorem clearGestures_interlock (s : State) : (clearGestures s).interlock = s.interlock := rfl
@[simp] theorem clearGestures_steering (s : State) : (clearGestures s).steering = s.steering := rfl
@[simp] theorem clearGestures_drive (s : State) : (clearGestures s).drive = s.drive := rfl
@[simp] theorem clearGestures_winch (s : State) : (clearGestures s).winch = s.winch := rfl
@[simp] theorem clearGestures_lights (s : State) : (clearGestures s).lights = s.lights := rfl
@[simp] theorem clearGestures_assist (s : State) : (clearGestures s).assist = s.assist := rfl
@[simp] theorem clearGestures_store (s : State) : (clearGestures s).store = s.store := rfl
@[simp] theorem clearGestures_alert (s : State) : (clearGestures s).alert = s.alert := rfl
@[simp] theorem clearGestures_pending (s : State) : (clearGestures s).pending = s.pending := rfl

/-! `gestureWritten` -/

@[simp] theorem gestureWritten_retention (i : Fin 4) (s : State) : (gestureWritten i s).retention = s.retention := rfl
@[simp] theorem gestureWritten_pins (i : Fin 4) (s : State) : (gestureWritten i s).pins = s.pins := rfl
@[simp] theorem gestureWritten_supply (i : Fin 4) (s : State) : (gestureWritten i s).supply = s.supply := rfl
@[simp] theorem gestureWritten_monitor (i : Fin 4) (s : State) : (gestureWritten i s).monitor = s.monitor := rfl
@[simp] theorem gestureWritten_protection (i : Fin 4) (s : State) : (gestureWritten i s).protection = s.protection := rfl
@[simp] theorem gestureWritten_budget (i : Fin 4) (s : State) : (gestureWritten i s).budget = s.budget := rfl
@[simp] theorem gestureWritten_authority (i : Fin 4) (s : State) : (gestureWritten i s).authority = s.authority := rfl
@[simp] theorem gestureWritten_interlock (i : Fin 4) (s : State) : (gestureWritten i s).interlock = s.interlock := rfl
@[simp] theorem gestureWritten_steering (i : Fin 4) (s : State) : (gestureWritten i s).steering = s.steering := rfl
@[simp] theorem gestureWritten_drive (i : Fin 4) (s : State) : (gestureWritten i s).drive = s.drive := rfl
@[simp] theorem gestureWritten_winch (i : Fin 4) (s : State) : (gestureWritten i s).winch = s.winch := rfl
@[simp] theorem gestureWritten_lights (i : Fin 4) (s : State) : (gestureWritten i s).lights = s.lights := rfl
@[simp] theorem gestureWritten_assist (i : Fin 4) (s : State) : (gestureWritten i s).assist = s.assist := rfl
@[simp] theorem gestureWritten_store (i : Fin 4) (s : State) : (gestureWritten i s).store = s.store := rfl
@[simp] theorem gestureWritten_alert (i : Fin 4) (s : State) : (gestureWritten i s).alert = s.alert := rfl
@[simp] theorem gestureWritten_pending (i : Fin 4) (s : State) : (gestureWritten i s).pending = s.pending := rfl

/-! `setCommands` -/

@[simp] theorem setCommands_retention (s : State) : (setCommands s).retention = s.retention := rfl
@[simp] theorem setCommands_pins (s : State) : (setCommands s).pins = s.pins := rfl
@[simp] theorem setCommands_supply (s : State) : (setCommands s).supply = s.supply := rfl
@[simp] theorem setCommands_monitor (s : State) : (setCommands s).monitor = s.monitor := rfl
@[simp] theorem setCommands_protection (s : State) : (setCommands s).protection = s.protection := rfl
@[simp] theorem setCommands_budget (s : State) : (setCommands s).budget = s.budget := rfl
@[simp] theorem setCommands_radio (s : State) : (setCommands s).radio = s.radio := rfl
@[simp] theorem setCommands_interlock (s : State) : (setCommands s).interlock = s.interlock := rfl
@[simp] theorem setCommands_steering (s : State) : (setCommands s).steering = s.steering := rfl
@[simp] theorem setCommands_drive (s : State) : (setCommands s).drive = s.drive := rfl
@[simp] theorem setCommands_winch (s : State) : (setCommands s).winch = s.winch := rfl
@[simp] theorem setCommands_lights (s : State) : (setCommands s).lights = s.lights := rfl
@[simp] theorem setCommands_assist (s : State) : (setCommands s).assist = s.assist := rfl
@[simp] theorem setCommands_store (s : State) : (setCommands s).store = s.store := rfl
@[simp] theorem setCommands_alert (s : State) : (setCommands s).alert = s.alert := rfl
@[simp] theorem setCommands_pending (s : State) : (setCommands s).pending = s.pending := rfl

/-! `setClaim` -/

@[simp] theorem setClaim_retention (f : Fn) (c : Claim) (s : State) : (setClaim f c s).retention = s.retention := rfl
@[simp] theorem setClaim_pins (f : Fn) (c : Claim) (s : State) : (setClaim f c s).pins = s.pins := rfl
@[simp] theorem setClaim_supply (f : Fn) (c : Claim) (s : State) : (setClaim f c s).supply = s.supply := rfl
@[simp] theorem setClaim_monitor (f : Fn) (c : Claim) (s : State) : (setClaim f c s).monitor = s.monitor := rfl
@[simp] theorem setClaim_protection (f : Fn) (c : Claim) (s : State) : (setClaim f c s).protection = s.protection := rfl
@[simp] theorem setClaim_budget (f : Fn) (c : Claim) (s : State) : (setClaim f c s).budget = s.budget := rfl
@[simp] theorem setClaim_radio (f : Fn) (c : Claim) (s : State) : (setClaim f c s).radio = s.radio := rfl
@[simp] theorem setClaim_interlock (f : Fn) (c : Claim) (s : State) : (setClaim f c s).interlock = s.interlock := rfl
@[simp] theorem setClaim_steering (f : Fn) (c : Claim) (s : State) : (setClaim f c s).steering = s.steering := rfl
@[simp] theorem setClaim_drive (f : Fn) (c : Claim) (s : State) : (setClaim f c s).drive = s.drive := rfl
@[simp] theorem setClaim_winch (f : Fn) (c : Claim) (s : State) : (setClaim f c s).winch = s.winch := rfl
@[simp] theorem setClaim_lights (f : Fn) (c : Claim) (s : State) : (setClaim f c s).lights = s.lights := rfl
@[simp] theorem setClaim_assist (f : Fn) (c : Claim) (s : State) : (setClaim f c s).assist = s.assist := rfl
@[simp] theorem setClaim_store (f : Fn) (c : Claim) (s : State) : (setClaim f c s).store = s.store := rfl
@[simp] theorem setClaim_alert (f : Fn) (c : Claim) (s : State) : (setClaim f c s).alert = s.alert := rfl
@[simp] theorem setClaim_pending (f : Fn) (c : Claim) (s : State) : (setClaim f c s).pending = s.pending := rfl

/-! `setLockout` -/

@[simp] theorem setLockout_retention (f : Fn) (l : Option Lockout) (s : State) : (setLockout f l s).retention = s.retention := rfl
@[simp] theorem setLockout_pins (f : Fn) (l : Option Lockout) (s : State) : (setLockout f l s).pins = s.pins := rfl
@[simp] theorem setLockout_supply (f : Fn) (l : Option Lockout) (s : State) : (setLockout f l s).supply = s.supply := rfl
@[simp] theorem setLockout_monitor (f : Fn) (l : Option Lockout) (s : State) : (setLockout f l s).monitor = s.monitor := rfl
@[simp] theorem setLockout_protection (f : Fn) (l : Option Lockout) (s : State) : (setLockout f l s).protection = s.protection := rfl
@[simp] theorem setLockout_budget (f : Fn) (l : Option Lockout) (s : State) : (setLockout f l s).budget = s.budget := rfl
@[simp] theorem setLockout_radio (f : Fn) (l : Option Lockout) (s : State) : (setLockout f l s).radio = s.radio := rfl
@[simp] theorem setLockout_interlock (f : Fn) (l : Option Lockout) (s : State) : (setLockout f l s).interlock = s.interlock := rfl
@[simp] theorem setLockout_steering (f : Fn) (l : Option Lockout) (s : State) : (setLockout f l s).steering = s.steering := rfl
@[simp] theorem setLockout_drive (f : Fn) (l : Option Lockout) (s : State) : (setLockout f l s).drive = s.drive := rfl
@[simp] theorem setLockout_winch (f : Fn) (l : Option Lockout) (s : State) : (setLockout f l s).winch = s.winch := rfl
@[simp] theorem setLockout_lights (f : Fn) (l : Option Lockout) (s : State) : (setLockout f l s).lights = s.lights := rfl
@[simp] theorem setLockout_assist (f : Fn) (l : Option Lockout) (s : State) : (setLockout f l s).assist = s.assist := rfl
@[simp] theorem setLockout_store (f : Fn) (l : Option Lockout) (s : State) : (setLockout f l s).store = s.store := rfl
@[simp] theorem setLockout_alert (f : Fn) (l : Option Lockout) (s : State) : (setLockout f l s).alert = s.alert := rfl
@[simp] theorem setLockout_pending (f : Fn) (l : Option Lockout) (s : State) : (setLockout f l s).pending = s.pending := rfl

/-! `resumeWinchExpiry` -/

@[simp] theorem resumeWinchExpiry_retention (s : State) : (resumeWinchExpiry s).retention = s.retention := rfl
@[simp] theorem resumeWinchExpiry_pins (s : State) : (resumeWinchExpiry s).pins = s.pins := rfl
@[simp] theorem resumeWinchExpiry_supply (s : State) : (resumeWinchExpiry s).supply = s.supply := rfl
@[simp] theorem resumeWinchExpiry_monitor (s : State) : (resumeWinchExpiry s).monitor = s.monitor := rfl
@[simp] theorem resumeWinchExpiry_protection (s : State) : (resumeWinchExpiry s).protection = s.protection := rfl
@[simp] theorem resumeWinchExpiry_budget (s : State) : (resumeWinchExpiry s).budget = s.budget := rfl
@[simp] theorem resumeWinchExpiry_radio (s : State) : (resumeWinchExpiry s).radio = s.radio := rfl
@[simp] theorem resumeWinchExpiry_interlock (s : State) : (resumeWinchExpiry s).interlock = s.interlock := rfl
@[simp] theorem resumeWinchExpiry_steering (s : State) : (resumeWinchExpiry s).steering = s.steering := rfl
@[simp] theorem resumeWinchExpiry_drive (s : State) : (resumeWinchExpiry s).drive = s.drive := rfl
@[simp] theorem resumeWinchExpiry_winch (s : State) : (resumeWinchExpiry s).winch = s.winch := rfl
@[simp] theorem resumeWinchExpiry_lights (s : State) : (resumeWinchExpiry s).lights = s.lights := rfl
@[simp] theorem resumeWinchExpiry_assist (s : State) : (resumeWinchExpiry s).assist = s.assist := rfl
@[simp] theorem resumeWinchExpiry_store (s : State) : (resumeWinchExpiry s).store = s.store := rfl
@[simp] theorem resumeWinchExpiry_alert (s : State) : (resumeWinchExpiry s).alert = s.alert := rfl
@[simp] theorem resumeWinchExpiry_pending (s : State) : (resumeWinchExpiry s).pending = s.pending := rfl

/-! `setWaiting` -/

@[simp] theorem setWaiting_retention (m : Option Mode) (s : State) : (setWaiting m s).retention = s.retention := rfl
@[simp] theorem setWaiting_pins (m : Option Mode) (s : State) : (setWaiting m s).pins = s.pins := rfl
@[simp] theorem setWaiting_supply (m : Option Mode) (s : State) : (setWaiting m s).supply = s.supply := rfl
@[simp] theorem setWaiting_monitor (m : Option Mode) (s : State) : (setWaiting m s).monitor = s.monitor := rfl
@[simp] theorem setWaiting_protection (m : Option Mode) (s : State) : (setWaiting m s).protection = s.protection := rfl
@[simp] theorem setWaiting_budget (m : Option Mode) (s : State) : (setWaiting m s).budget = s.budget := rfl
@[simp] theorem setWaiting_radio (m : Option Mode) (s : State) : (setWaiting m s).radio = s.radio := rfl
@[simp] theorem setWaiting_authority (m : Option Mode) (s : State) : (setWaiting m s).authority = s.authority := rfl
@[simp] theorem setWaiting_interlock (m : Option Mode) (s : State) : (setWaiting m s).interlock = s.interlock := rfl
@[simp] theorem setWaiting_drive (m : Option Mode) (s : State) : (setWaiting m s).drive = s.drive := rfl
@[simp] theorem setWaiting_winch (m : Option Mode) (s : State) : (setWaiting m s).winch = s.winch := rfl
@[simp] theorem setWaiting_lights (m : Option Mode) (s : State) : (setWaiting m s).lights = s.lights := rfl
@[simp] theorem setWaiting_assist (m : Option Mode) (s : State) : (setWaiting m s).assist = s.assist := rfl
@[simp] theorem setWaiting_store (m : Option Mode) (s : State) : (setWaiting m s).store = s.store := rfl
@[simp] theorem setWaiting_alert (m : Option Mode) (s : State) : (setWaiting m s).alert = s.alert := rfl
@[simp] theorem setWaiting_pending (m : Option Mode) (s : State) : (setWaiting m s).pending = s.pending := rfl

/-! `replaceTransition` -/

@[simp] theorem replaceTransition_retention (m : Mode) (s : State) : (replaceTransition m s).retention = s.retention := rfl
@[simp] theorem replaceTransition_pins (m : Mode) (s : State) : (replaceTransition m s).pins = s.pins := rfl
@[simp] theorem replaceTransition_supply (m : Mode) (s : State) : (replaceTransition m s).supply = s.supply := rfl
@[simp] theorem replaceTransition_monitor (m : Mode) (s : State) : (replaceTransition m s).monitor = s.monitor := rfl
@[simp] theorem replaceTransition_protection (m : Mode) (s : State) : (replaceTransition m s).protection = s.protection := rfl
@[simp] theorem replaceTransition_budget (m : Mode) (s : State) : (replaceTransition m s).budget = s.budget := rfl
@[simp] theorem replaceTransition_radio (m : Mode) (s : State) : (replaceTransition m s).radio = s.radio := rfl
@[simp] theorem replaceTransition_authority (m : Mode) (s : State) : (replaceTransition m s).authority = s.authority := rfl
@[simp] theorem replaceTransition_interlock (m : Mode) (s : State) : (replaceTransition m s).interlock = s.interlock := rfl
@[simp] theorem replaceTransition_drive (m : Mode) (s : State) : (replaceTransition m s).drive = s.drive := rfl
@[simp] theorem replaceTransition_winch (m : Mode) (s : State) : (replaceTransition m s).winch = s.winch := rfl
@[simp] theorem replaceTransition_lights (m : Mode) (s : State) : (replaceTransition m s).lights = s.lights := rfl
@[simp] theorem replaceTransition_assist (m : Mode) (s : State) : (replaceTransition m s).assist = s.assist := rfl
@[simp] theorem replaceTransition_store (m : Mode) (s : State) : (replaceTransition m s).store = s.store := rfl
@[simp] theorem replaceTransition_alert (m : Mode) (s : State) : (replaceTransition m s).alert = s.alert := rfl
@[simp] theorem replaceTransition_pending (m : Mode) (s : State) : (replaceTransition m s).pending = s.pending := rfl

/-! `computeTargets` -/

@[simp] theorem computeTargets_retention (s : State) : (computeTargets s).retention = s.retention := rfl
@[simp] theorem computeTargets_pins (s : State) : (computeTargets s).pins = s.pins := rfl
@[simp] theorem computeTargets_supply (s : State) : (computeTargets s).supply = s.supply := rfl
@[simp] theorem computeTargets_monitor (s : State) : (computeTargets s).monitor = s.monitor := rfl
@[simp] theorem computeTargets_protection (s : State) : (computeTargets s).protection = s.protection := rfl
@[simp] theorem computeTargets_budget (s : State) : (computeTargets s).budget = s.budget := rfl
@[simp] theorem computeTargets_radio (s : State) : (computeTargets s).radio = s.radio := rfl
@[simp] theorem computeTargets_authority (s : State) : (computeTargets s).authority = s.authority := rfl
@[simp] theorem computeTargets_interlock (s : State) : (computeTargets s).interlock = s.interlock := rfl
@[simp] theorem computeTargets_drive (s : State) : (computeTargets s).drive = s.drive := rfl
@[simp] theorem computeTargets_winch (s : State) : (computeTargets s).winch = s.winch := rfl
@[simp] theorem computeTargets_lights (s : State) : (computeTargets s).lights = s.lights := rfl
@[simp] theorem computeTargets_assist (s : State) : (computeTargets s).assist = s.assist := rfl
@[simp] theorem computeTargets_store (s : State) : (computeTargets s).store = s.store := rfl
@[simp] theorem computeTargets_alert (s : State) : (computeTargets s).alert = s.alert := rfl
@[simp] theorem computeTargets_pending (s : State) : (computeTargets s).pending = s.pending := rfl

/-! `judgeSettled` -/

@[simp] theorem judgeSettled_retention (s : State) : (judgeSettled s).retention = s.retention := rfl
@[simp] theorem judgeSettled_pins (s : State) : (judgeSettled s).pins = s.pins := rfl
@[simp] theorem judgeSettled_supply (s : State) : (judgeSettled s).supply = s.supply := rfl
@[simp] theorem judgeSettled_monitor (s : State) : (judgeSettled s).monitor = s.monitor := rfl
@[simp] theorem judgeSettled_protection (s : State) : (judgeSettled s).protection = s.protection := rfl
@[simp] theorem judgeSettled_budget (s : State) : (judgeSettled s).budget = s.budget := rfl
@[simp] theorem judgeSettled_radio (s : State) : (judgeSettled s).radio = s.radio := rfl
@[simp] theorem judgeSettled_authority (s : State) : (judgeSettled s).authority = s.authority := rfl
@[simp] theorem judgeSettled_interlock (s : State) : (judgeSettled s).interlock = s.interlock := rfl
@[simp] theorem judgeSettled_drive (s : State) : (judgeSettled s).drive = s.drive := rfl
@[simp] theorem judgeSettled_winch (s : State) : (judgeSettled s).winch = s.winch := rfl
@[simp] theorem judgeSettled_lights (s : State) : (judgeSettled s).lights = s.lights := rfl
@[simp] theorem judgeSettled_assist (s : State) : (judgeSettled s).assist = s.assist := rfl
@[simp] theorem judgeSettled_store (s : State) : (judgeSettled s).store = s.store := rfl
@[simp] theorem judgeSettled_alert (s : State) : (judgeSettled s).alert = s.alert := rfl
@[simp] theorem judgeSettled_pending (s : State) : (judgeSettled s).pending = s.pending := rfl

/-! `steerRearTarget` -/

@[simp] theorem steerRearTarget_retention (o n : TargetState) (s : State) : (steerRearTarget o n s).retention = s.retention := rfl
@[simp] theorem steerRearTarget_pins (o n : TargetState) (s : State) : (steerRearTarget o n s).pins = s.pins := rfl
@[simp] theorem steerRearTarget_supply (o n : TargetState) (s : State) : (steerRearTarget o n s).supply = s.supply := rfl
@[simp] theorem steerRearTarget_monitor (o n : TargetState) (s : State) : (steerRearTarget o n s).monitor = s.monitor := rfl
@[simp] theorem steerRearTarget_protection (o n : TargetState) (s : State) : (steerRearTarget o n s).protection = s.protection := rfl
@[simp] theorem steerRearTarget_budget (o n : TargetState) (s : State) : (steerRearTarget o n s).budget = s.budget := rfl
@[simp] theorem steerRearTarget_radio (o n : TargetState) (s : State) : (steerRearTarget o n s).radio = s.radio := rfl
@[simp] theorem steerRearTarget_authority (o n : TargetState) (s : State) : (steerRearTarget o n s).authority = s.authority := rfl
@[simp] theorem steerRearTarget_interlock (o n : TargetState) (s : State) : (steerRearTarget o n s).interlock = s.interlock := rfl
@[simp] theorem steerRearTarget_drive (o n : TargetState) (s : State) : (steerRearTarget o n s).drive = s.drive := rfl
@[simp] theorem steerRearTarget_winch (o n : TargetState) (s : State) : (steerRearTarget o n s).winch = s.winch := rfl
@[simp] theorem steerRearTarget_lights (o n : TargetState) (s : State) : (steerRearTarget o n s).lights = s.lights := rfl
@[simp] theorem steerRearTarget_assist (o n : TargetState) (s : State) : (steerRearTarget o n s).assist = s.assist := rfl
@[simp] theorem steerRearTarget_store (o n : TargetState) (s : State) : (steerRearTarget o n s).store = s.store := rfl
@[simp] theorem steerRearTarget_alert (o n : TargetState) (s : State) : (steerRearTarget o n s).alert = s.alert := rfl
@[simp] theorem steerRearTarget_pending (o n : TargetState) (s : State) : (steerRearTarget o n s).pending = s.pending := rfl

/-! `driveNeutral` -/

@[simp] theorem driveNeutral_retention (s : State) : (driveNeutral s).retention = s.retention := rfl
@[simp] theorem driveNeutral_pins (s : State) : (driveNeutral s).pins = s.pins := rfl
@[simp] theorem driveNeutral_supply (s : State) : (driveNeutral s).supply = s.supply := rfl
@[simp] theorem driveNeutral_monitor (s : State) : (driveNeutral s).monitor = s.monitor := rfl
@[simp] theorem driveNeutral_protection (s : State) : (driveNeutral s).protection = s.protection := rfl
@[simp] theorem driveNeutral_budget (s : State) : (driveNeutral s).budget = s.budget := rfl
@[simp] theorem driveNeutral_radio (s : State) : (driveNeutral s).radio = s.radio := rfl
@[simp] theorem driveNeutral_authority (s : State) : (driveNeutral s).authority = s.authority := rfl
@[simp] theorem driveNeutral_interlock (s : State) : (driveNeutral s).interlock = s.interlock := rfl
@[simp] theorem driveNeutral_steering (s : State) : (driveNeutral s).steering = s.steering := rfl
@[simp] theorem driveNeutral_winch (s : State) : (driveNeutral s).winch = s.winch := rfl
@[simp] theorem driveNeutral_lights (s : State) : (driveNeutral s).lights = s.lights := rfl
@[simp] theorem driveNeutral_assist (s : State) : (driveNeutral s).assist = s.assist := rfl
@[simp] theorem driveNeutral_store (s : State) : (driveNeutral s).store = s.store := rfl
@[simp] theorem driveNeutral_alert (s : State) : (driveNeutral s).alert = s.alert := rfl
@[simp] theorem driveNeutral_pending (s : State) : (driveNeutral s).pending = s.pending := rfl

/-! `driveFwdTarget` -/

@[simp] theorem driveFwdTarget_retention (o n : TargetState) (s : State) : (driveFwdTarget o n s).retention = s.retention := rfl
@[simp] theorem driveFwdTarget_pins (o n : TargetState) (s : State) : (driveFwdTarget o n s).pins = s.pins := rfl
@[simp] theorem driveFwdTarget_supply (o n : TargetState) (s : State) : (driveFwdTarget o n s).supply = s.supply := rfl
@[simp] theorem driveFwdTarget_monitor (o n : TargetState) (s : State) : (driveFwdTarget o n s).monitor = s.monitor := rfl
@[simp] theorem driveFwdTarget_protection (o n : TargetState) (s : State) : (driveFwdTarget o n s).protection = s.protection := rfl
@[simp] theorem driveFwdTarget_budget (o n : TargetState) (s : State) : (driveFwdTarget o n s).budget = s.budget := rfl
@[simp] theorem driveFwdTarget_radio (o n : TargetState) (s : State) : (driveFwdTarget o n s).radio = s.radio := rfl
@[simp] theorem driveFwdTarget_authority (o n : TargetState) (s : State) : (driveFwdTarget o n s).authority = s.authority := rfl
@[simp] theorem driveFwdTarget_interlock (o n : TargetState) (s : State) : (driveFwdTarget o n s).interlock = s.interlock := rfl
@[simp] theorem driveFwdTarget_steering (o n : TargetState) (s : State) : (driveFwdTarget o n s).steering = s.steering := rfl
@[simp] theorem driveFwdTarget_winch (o n : TargetState) (s : State) : (driveFwdTarget o n s).winch = s.winch := rfl
@[simp] theorem driveFwdTarget_lights (o n : TargetState) (s : State) : (driveFwdTarget o n s).lights = s.lights := rfl
@[simp] theorem driveFwdTarget_assist (o n : TargetState) (s : State) : (driveFwdTarget o n s).assist = s.assist := rfl
@[simp] theorem driveFwdTarget_store (o n : TargetState) (s : State) : (driveFwdTarget o n s).store = s.store := rfl
@[simp] theorem driveFwdTarget_alert (o n : TargetState) (s : State) : (driveFwdTarget o n s).alert = s.alert := rfl
@[simp] theorem driveFwdTarget_pending (o n : TargetState) (s : State) : (driveFwdTarget o n s).pending = s.pending := rfl

/-! `driveRevTarget` -/

@[simp] theorem driveRevTarget_retention (o n : TargetState) (s : State) : (driveRevTarget o n s).retention = s.retention := rfl
@[simp] theorem driveRevTarget_pins (o n : TargetState) (s : State) : (driveRevTarget o n s).pins = s.pins := rfl
@[simp] theorem driveRevTarget_supply (o n : TargetState) (s : State) : (driveRevTarget o n s).supply = s.supply := rfl
@[simp] theorem driveRevTarget_monitor (o n : TargetState) (s : State) : (driveRevTarget o n s).monitor = s.monitor := rfl
@[simp] theorem driveRevTarget_protection (o n : TargetState) (s : State) : (driveRevTarget o n s).protection = s.protection := rfl
@[simp] theorem driveRevTarget_budget (o n : TargetState) (s : State) : (driveRevTarget o n s).budget = s.budget := rfl
@[simp] theorem driveRevTarget_radio (o n : TargetState) (s : State) : (driveRevTarget o n s).radio = s.radio := rfl
@[simp] theorem driveRevTarget_authority (o n : TargetState) (s : State) : (driveRevTarget o n s).authority = s.authority := rfl
@[simp] theorem driveRevTarget_interlock (o n : TargetState) (s : State) : (driveRevTarget o n s).interlock = s.interlock := rfl
@[simp] theorem driveRevTarget_steering (o n : TargetState) (s : State) : (driveRevTarget o n s).steering = s.steering := rfl
@[simp] theorem driveRevTarget_winch (o n : TargetState) (s : State) : (driveRevTarget o n s).winch = s.winch := rfl
@[simp] theorem driveRevTarget_lights (o n : TargetState) (s : State) : (driveRevTarget o n s).lights = s.lights := rfl
@[simp] theorem driveRevTarget_assist (o n : TargetState) (s : State) : (driveRevTarget o n s).assist = s.assist := rfl
@[simp] theorem driveRevTarget_store (o n : TargetState) (s : State) : (driveRevTarget o n s).store = s.store := rfl
@[simp] theorem driveRevTarget_alert (o n : TargetState) (s : State) : (driveRevTarget o n s).alert = s.alert := rfl
@[simp] theorem driveRevTarget_pending (o n : TargetState) (s : State) : (driveRevTarget o n s).pending = s.pending := rfl

/-! `driveFrame` -/

@[simp] theorem driveFrame_retention (s : State) : (driveFrame s).retention = s.retention := rfl
@[simp] theorem driveFrame_pins (s : State) : (driveFrame s).pins = s.pins := rfl
@[simp] theorem driveFrame_supply (s : State) : (driveFrame s).supply = s.supply := rfl
@[simp] theorem driveFrame_monitor (s : State) : (driveFrame s).monitor = s.monitor := rfl
@[simp] theorem driveFrame_protection (s : State) : (driveFrame s).protection = s.protection := rfl
@[simp] theorem driveFrame_budget (s : State) : (driveFrame s).budget = s.budget := rfl
@[simp] theorem driveFrame_radio (s : State) : (driveFrame s).radio = s.radio := rfl
@[simp] theorem driveFrame_authority (s : State) : (driveFrame s).authority = s.authority := rfl
@[simp] theorem driveFrame_interlock (s : State) : (driveFrame s).interlock = s.interlock := rfl
@[simp] theorem driveFrame_steering (s : State) : (driveFrame s).steering = s.steering := rfl
@[simp] theorem driveFrame_winch (s : State) : (driveFrame s).winch = s.winch := rfl
@[simp] theorem driveFrame_lights (s : State) : (driveFrame s).lights = s.lights := rfl
@[simp] theorem driveFrame_assist (s : State) : (driveFrame s).assist = s.assist := rfl
@[simp] theorem driveFrame_store (s : State) : (driveFrame s).store = s.store := rfl
@[simp] theorem driveFrame_alert (s : State) : (driveFrame s).alert = s.alert := rfl
@[simp] theorem driveFrame_pending (s : State) : (driveFrame s).pending = s.pending := rfl

/-! `judgeNeutralRun` -/

@[simp] theorem judgeNeutralRun_retention (s : State) : (judgeNeutralRun s).retention = s.retention := rfl
@[simp] theorem judgeNeutralRun_pins (s : State) : (judgeNeutralRun s).pins = s.pins := rfl
@[simp] theorem judgeNeutralRun_supply (s : State) : (judgeNeutralRun s).supply = s.supply := rfl
@[simp] theorem judgeNeutralRun_monitor (s : State) : (judgeNeutralRun s).monitor = s.monitor := rfl
@[simp] theorem judgeNeutralRun_protection (s : State) : (judgeNeutralRun s).protection = s.protection := rfl
@[simp] theorem judgeNeutralRun_budget (s : State) : (judgeNeutralRun s).budget = s.budget := rfl
@[simp] theorem judgeNeutralRun_radio (s : State) : (judgeNeutralRun s).radio = s.radio := rfl
@[simp] theorem judgeNeutralRun_authority (s : State) : (judgeNeutralRun s).authority = s.authority := rfl
@[simp] theorem judgeNeutralRun_interlock (s : State) : (judgeNeutralRun s).interlock = s.interlock := rfl
@[simp] theorem judgeNeutralRun_steering (s : State) : (judgeNeutralRun s).steering = s.steering := rfl
@[simp] theorem judgeNeutralRun_drive (s : State) : (judgeNeutralRun s).drive = s.drive := rfl
@[simp] theorem judgeNeutralRun_lights (s : State) : (judgeNeutralRun s).lights = s.lights := rfl
@[simp] theorem judgeNeutralRun_assist (s : State) : (judgeNeutralRun s).assist = s.assist := rfl
@[simp] theorem judgeNeutralRun_store (s : State) : (judgeNeutralRun s).store = s.store := rfl
@[simp] theorem judgeNeutralRun_alert (s : State) : (judgeNeutralRun s).alert = s.alert := rfl
@[simp] theorem judgeNeutralRun_pending (s : State) : (judgeNeutralRun s).pending = s.pending := rfl

/-! `judgeTurns` -/

@[simp] theorem judgeTurns_retention (s : State) : (judgeTurns s).retention = s.retention := rfl
@[simp] theorem judgeTurns_pins (s : State) : (judgeTurns s).pins = s.pins := rfl
@[simp] theorem judgeTurns_supply (s : State) : (judgeTurns s).supply = s.supply := rfl
@[simp] theorem judgeTurns_monitor (s : State) : (judgeTurns s).monitor = s.monitor := rfl
@[simp] theorem judgeTurns_protection (s : State) : (judgeTurns s).protection = s.protection := rfl
@[simp] theorem judgeTurns_budget (s : State) : (judgeTurns s).budget = s.budget := rfl
@[simp] theorem judgeTurns_radio (s : State) : (judgeTurns s).radio = s.radio := rfl
@[simp] theorem judgeTurns_authority (s : State) : (judgeTurns s).authority = s.authority := rfl
@[simp] theorem judgeTurns_interlock (s : State) : (judgeTurns s).interlock = s.interlock := rfl
@[simp] theorem judgeTurns_steering (s : State) : (judgeTurns s).steering = s.steering := rfl
@[simp] theorem judgeTurns_drive (s : State) : (judgeTurns s).drive = s.drive := rfl
@[simp] theorem judgeTurns_winch (s : State) : (judgeTurns s).winch = s.winch := rfl
@[simp] theorem judgeTurns_assist (s : State) : (judgeTurns s).assist = s.assist := rfl
@[simp] theorem judgeTurns_store (s : State) : (judgeTurns s).store = s.store := rfl
@[simp] theorem judgeTurns_alert (s : State) : (judgeTurns s).alert = s.alert := rfl
@[simp] theorem judgeTurns_pending (s : State) : (judgeTurns s).pending = s.pending := rfl

/-! `judgeBlinker` -/

@[simp] theorem judgeBlinker_retention (s : State) : (judgeBlinker s).retention = s.retention := rfl
@[simp] theorem judgeBlinker_pins (s : State) : (judgeBlinker s).pins = s.pins := rfl
@[simp] theorem judgeBlinker_supply (s : State) : (judgeBlinker s).supply = s.supply := rfl
@[simp] theorem judgeBlinker_monitor (s : State) : (judgeBlinker s).monitor = s.monitor := rfl
@[simp] theorem judgeBlinker_protection (s : State) : (judgeBlinker s).protection = s.protection := rfl
@[simp] theorem judgeBlinker_budget (s : State) : (judgeBlinker s).budget = s.budget := rfl
@[simp] theorem judgeBlinker_radio (s : State) : (judgeBlinker s).radio = s.radio := rfl
@[simp] theorem judgeBlinker_authority (s : State) : (judgeBlinker s).authority = s.authority := rfl
@[simp] theorem judgeBlinker_interlock (s : State) : (judgeBlinker s).interlock = s.interlock := rfl
@[simp] theorem judgeBlinker_steering (s : State) : (judgeBlinker s).steering = s.steering := rfl
@[simp] theorem judgeBlinker_drive (s : State) : (judgeBlinker s).drive = s.drive := rfl
@[simp] theorem judgeBlinker_winch (s : State) : (judgeBlinker s).winch = s.winch := rfl
@[simp] theorem judgeBlinker_assist (s : State) : (judgeBlinker s).assist = s.assist := rfl
@[simp] theorem judgeBlinker_store (s : State) : (judgeBlinker s).store = s.store := rfl
@[simp] theorem judgeBlinker_alert (s : State) : (judgeBlinker s).alert = s.alert := rfl
@[simp] theorem judgeBlinker_pending (s : State) : (judgeBlinker s).pending = s.pending := rfl

/-! `decideSources` -/

@[simp] theorem decideSources_retention (s : State) : (decideSources s).retention = s.retention := rfl
@[simp] theorem decideSources_pins (s : State) : (decideSources s).pins = s.pins := rfl
@[simp] theorem decideSources_supply (s : State) : (decideSources s).supply = s.supply := rfl
@[simp] theorem decideSources_monitor (s : State) : (decideSources s).monitor = s.monitor := rfl
@[simp] theorem decideSources_protection (s : State) : (decideSources s).protection = s.protection := rfl
@[simp] theorem decideSources_budget (s : State) : (decideSources s).budget = s.budget := rfl
@[simp] theorem decideSources_radio (s : State) : (decideSources s).radio = s.radio := rfl
@[simp] theorem decideSources_authority (s : State) : (decideSources s).authority = s.authority := rfl
@[simp] theorem decideSources_interlock (s : State) : (decideSources s).interlock = s.interlock := rfl
@[simp] theorem decideSources_steering (s : State) : (decideSources s).steering = s.steering := rfl
@[simp] theorem decideSources_drive (s : State) : (decideSources s).drive = s.drive := rfl
@[simp] theorem decideSources_winch (s : State) : (decideSources s).winch = s.winch := rfl
@[simp] theorem decideSources_assist (s : State) : (decideSources s).assist = s.assist := rfl
@[simp] theorem decideSources_store (s : State) : (decideSources s).store = s.store := rfl
@[simp] theorem decideSources_alert (s : State) : (decideSources s).alert = s.alert := rfl
@[simp] theorem decideSources_pending (s : State) : (decideSources s).pending = s.pending := rfl

/-! `reportLightDemands` -/

@[simp] theorem reportLightDemands_retention (s : State) : (reportLightDemands s).retention = s.retention := rfl
@[simp] theorem reportLightDemands_pins (s : State) : (reportLightDemands s).pins = s.pins := rfl
@[simp] theorem reportLightDemands_supply (s : State) : (reportLightDemands s).supply = s.supply := rfl
@[simp] theorem reportLightDemands_monitor (s : State) : (reportLightDemands s).monitor = s.monitor := rfl
@[simp] theorem reportLightDemands_protection (s : State) : (reportLightDemands s).protection = s.protection := rfl
@[simp] theorem reportLightDemands_budget (s : State) : (reportLightDemands s).budget = s.budget := rfl
@[simp] theorem reportLightDemands_radio (s : State) : (reportLightDemands s).radio = s.radio := rfl
@[simp] theorem reportLightDemands_authority (s : State) : (reportLightDemands s).authority = s.authority := rfl
@[simp] theorem reportLightDemands_interlock (s : State) : (reportLightDemands s).interlock = s.interlock := rfl
@[simp] theorem reportLightDemands_steering (s : State) : (reportLightDemands s).steering = s.steering := rfl
@[simp] theorem reportLightDemands_drive (s : State) : (reportLightDemands s).drive = s.drive := rfl
@[simp] theorem reportLightDemands_winch (s : State) : (reportLightDemands s).winch = s.winch := rfl
@[simp] theorem reportLightDemands_assist (s : State) : (reportLightDemands s).assist = s.assist := rfl
@[simp] theorem reportLightDemands_store (s : State) : (reportLightDemands s).store = s.store := rfl
@[simp] theorem reportLightDemands_alert (s : State) : (reportLightDemands s).alert = s.alert := rfl
@[simp] theorem reportLightDemands_pending (s : State) : (reportLightDemands s).pending = s.pending := rfl

/-! `lightsRefresh` -/

@[simp] theorem lightsRefresh_retention (s : State) : (lightsRefresh s).retention = s.retention := by
  simp only [lightsRefresh, reportLightDemands_retention, decideSources_retention, judgeBlinker_retention]
@[simp] theorem lightsRefresh_pins (s : State) : (lightsRefresh s).pins = s.pins := by
  simp only [lightsRefresh, reportLightDemands_pins, decideSources_pins, judgeBlinker_pins]
@[simp] theorem lightsRefresh_supply (s : State) : (lightsRefresh s).supply = s.supply := by
  simp only [lightsRefresh, reportLightDemands_supply, decideSources_supply, judgeBlinker_supply]
@[simp] theorem lightsRefresh_monitor (s : State) : (lightsRefresh s).monitor = s.monitor := by
  simp only [lightsRefresh, reportLightDemands_monitor, decideSources_monitor, judgeBlinker_monitor]
@[simp] theorem lightsRefresh_protection (s : State) : (lightsRefresh s).protection = s.protection := by
  simp only [lightsRefresh, reportLightDemands_protection, decideSources_protection, judgeBlinker_protection]
@[simp] theorem lightsRefresh_budget (s : State) : (lightsRefresh s).budget = s.budget := by
  simp only [lightsRefresh, reportLightDemands_budget, decideSources_budget, judgeBlinker_budget]
@[simp] theorem lightsRefresh_radio (s : State) : (lightsRefresh s).radio = s.radio := by
  simp only [lightsRefresh, reportLightDemands_radio, decideSources_radio, judgeBlinker_radio]
@[simp] theorem lightsRefresh_authority (s : State) : (lightsRefresh s).authority = s.authority := by
  simp only [lightsRefresh, reportLightDemands_authority, decideSources_authority, judgeBlinker_authority]
@[simp] theorem lightsRefresh_interlock (s : State) : (lightsRefresh s).interlock = s.interlock := by
  simp only [lightsRefresh, reportLightDemands_interlock, decideSources_interlock, judgeBlinker_interlock]
@[simp] theorem lightsRefresh_steering (s : State) : (lightsRefresh s).steering = s.steering := by
  simp only [lightsRefresh, reportLightDemands_steering, decideSources_steering, judgeBlinker_steering]
@[simp] theorem lightsRefresh_drive (s : State) : (lightsRefresh s).drive = s.drive := by
  simp only [lightsRefresh, reportLightDemands_drive, decideSources_drive, judgeBlinker_drive]
@[simp] theorem lightsRefresh_winch (s : State) : (lightsRefresh s).winch = s.winch := by
  simp only [lightsRefresh, reportLightDemands_winch, decideSources_winch, judgeBlinker_winch]
@[simp] theorem lightsRefresh_assist (s : State) : (lightsRefresh s).assist = s.assist := by
  simp only [lightsRefresh, reportLightDemands_assist, decideSources_assist, judgeBlinker_assist]
@[simp] theorem lightsRefresh_store (s : State) : (lightsRefresh s).store = s.store := by
  simp only [lightsRefresh, reportLightDemands_store, decideSources_store, judgeBlinker_store]
@[simp] theorem lightsRefresh_alert (s : State) : (lightsRefresh s).alert = s.alert := by
  simp only [lightsRefresh, reportLightDemands_alert, decideSources_alert, judgeBlinker_alert]
@[simp] theorem lightsRefresh_pending (s : State) : (lightsRefresh s).pending = s.pending := by
  simp only [lightsRefresh, reportLightDemands_pending, decideSources_pending, judgeBlinker_pending]

/-! `blinkerChannelsStep` -/

@[simp] theorem blinkerChannelsStep_retention (s : State) : (blinkerChannelsStep s).retention = s.retention := rfl
@[simp] theorem blinkerChannelsStep_pins (s : State) : (blinkerChannelsStep s).pins = s.pins := rfl
@[simp] theorem blinkerChannelsStep_supply (s : State) : (blinkerChannelsStep s).supply = s.supply := rfl
@[simp] theorem blinkerChannelsStep_monitor (s : State) : (blinkerChannelsStep s).monitor = s.monitor := rfl
@[simp] theorem blinkerChannelsStep_protection (s : State) : (blinkerChannelsStep s).protection = s.protection := rfl
@[simp] theorem blinkerChannelsStep_budget (s : State) : (blinkerChannelsStep s).budget = s.budget := rfl
@[simp] theorem blinkerChannelsStep_radio (s : State) : (blinkerChannelsStep s).radio = s.radio := rfl
@[simp] theorem blinkerChannelsStep_authority (s : State) : (blinkerChannelsStep s).authority = s.authority := rfl
@[simp] theorem blinkerChannelsStep_interlock (s : State) : (blinkerChannelsStep s).interlock = s.interlock := rfl
@[simp] theorem blinkerChannelsStep_steering (s : State) : (blinkerChannelsStep s).steering = s.steering := rfl
@[simp] theorem blinkerChannelsStep_drive (s : State) : (blinkerChannelsStep s).drive = s.drive := rfl
@[simp] theorem blinkerChannelsStep_winch (s : State) : (blinkerChannelsStep s).winch = s.winch := rfl
@[simp] theorem blinkerChannelsStep_assist (s : State) : (blinkerChannelsStep s).assist = s.assist := rfl
@[simp] theorem blinkerChannelsStep_store (s : State) : (blinkerChannelsStep s).store = s.store := rfl
@[simp] theorem blinkerChannelsStep_alert (s : State) : (blinkerChannelsStep s).alert = s.alert := rfl
@[simp] theorem blinkerChannelsStep_pending (s : State) : (blinkerChannelsStep s).pending = s.pending := rfl

/-! `blinkerBegin` -/

@[simp] theorem blinkerBegin_retention (k : Nat) (s : State) : (blinkerBegin k s).retention = s.retention := by
  simp only [blinkerBegin, blinkerChannelsStep_retention]
@[simp] theorem blinkerBegin_pins (k : Nat) (s : State) : (blinkerBegin k s).pins = s.pins := by
  simp only [blinkerBegin, blinkerChannelsStep_pins]
@[simp] theorem blinkerBegin_supply (k : Nat) (s : State) : (blinkerBegin k s).supply = s.supply := by
  simp only [blinkerBegin, blinkerChannelsStep_supply]
@[simp] theorem blinkerBegin_monitor (k : Nat) (s : State) : (blinkerBegin k s).monitor = s.monitor := by
  simp only [blinkerBegin, blinkerChannelsStep_monitor]
@[simp] theorem blinkerBegin_protection (k : Nat) (s : State) : (blinkerBegin k s).protection = s.protection := by
  simp only [blinkerBegin, blinkerChannelsStep_protection]
@[simp] theorem blinkerBegin_budget (k : Nat) (s : State) : (blinkerBegin k s).budget = s.budget := by
  simp only [blinkerBegin, blinkerChannelsStep_budget]
@[simp] theorem blinkerBegin_radio (k : Nat) (s : State) : (blinkerBegin k s).radio = s.radio := by
  simp only [blinkerBegin, blinkerChannelsStep_radio]
@[simp] theorem blinkerBegin_authority (k : Nat) (s : State) : (blinkerBegin k s).authority = s.authority := by
  simp only [blinkerBegin, blinkerChannelsStep_authority]
@[simp] theorem blinkerBegin_interlock (k : Nat) (s : State) : (blinkerBegin k s).interlock = s.interlock := by
  simp only [blinkerBegin, blinkerChannelsStep_interlock]
@[simp] theorem blinkerBegin_steering (k : Nat) (s : State) : (blinkerBegin k s).steering = s.steering := by
  simp only [blinkerBegin, blinkerChannelsStep_steering]
@[simp] theorem blinkerBegin_drive (k : Nat) (s : State) : (blinkerBegin k s).drive = s.drive := by
  simp only [blinkerBegin, blinkerChannelsStep_drive]
@[simp] theorem blinkerBegin_winch (k : Nat) (s : State) : (blinkerBegin k s).winch = s.winch := by
  simp only [blinkerBegin, blinkerChannelsStep_winch]
@[simp] theorem blinkerBegin_assist (k : Nat) (s : State) : (blinkerBegin k s).assist = s.assist := by
  simp only [blinkerBegin, blinkerChannelsStep_assist]
@[simp] theorem blinkerBegin_store (k : Nat) (s : State) : (blinkerBegin k s).store = s.store := by
  simp only [blinkerBegin, blinkerChannelsStep_store]
@[simp] theorem blinkerBegin_alert (k : Nat) (s : State) : (blinkerBegin k s).alert = s.alert := by
  simp only [blinkerBegin, blinkerChannelsStep_alert]
@[simp] theorem blinkerBegin_pending (k : Nat) (s : State) : (blinkerBegin k s).pending = s.pending := by
  simp only [blinkerBegin, blinkerChannelsStep_pending]

/-! `onSceneChannels` -/

@[simp] theorem onSceneChannels_retention (d : Bool) (f : Fin 8 → ChannelState → ChannelState) (s : State) : (onSceneChannels d f s).retention = s.retention := rfl
@[simp] theorem onSceneChannels_pins (d : Bool) (f : Fin 8 → ChannelState → ChannelState) (s : State) : (onSceneChannels d f s).pins = s.pins := rfl
@[simp] theorem onSceneChannels_supply (d : Bool) (f : Fin 8 → ChannelState → ChannelState) (s : State) : (onSceneChannels d f s).supply = s.supply := rfl
@[simp] theorem onSceneChannels_monitor (d : Bool) (f : Fin 8 → ChannelState → ChannelState) (s : State) : (onSceneChannels d f s).monitor = s.monitor := rfl
@[simp] theorem onSceneChannels_protection (d : Bool) (f : Fin 8 → ChannelState → ChannelState) (s : State) : (onSceneChannels d f s).protection = s.protection := rfl
@[simp] theorem onSceneChannels_budget (d : Bool) (f : Fin 8 → ChannelState → ChannelState) (s : State) : (onSceneChannels d f s).budget = s.budget := rfl
@[simp] theorem onSceneChannels_radio (d : Bool) (f : Fin 8 → ChannelState → ChannelState) (s : State) : (onSceneChannels d f s).radio = s.radio := rfl
@[simp] theorem onSceneChannels_authority (d : Bool) (f : Fin 8 → ChannelState → ChannelState) (s : State) : (onSceneChannels d f s).authority = s.authority := rfl
@[simp] theorem onSceneChannels_interlock (d : Bool) (f : Fin 8 → ChannelState → ChannelState) (s : State) : (onSceneChannels d f s).interlock = s.interlock := rfl
@[simp] theorem onSceneChannels_steering (d : Bool) (f : Fin 8 → ChannelState → ChannelState) (s : State) : (onSceneChannels d f s).steering = s.steering := rfl
@[simp] theorem onSceneChannels_drive (d : Bool) (f : Fin 8 → ChannelState → ChannelState) (s : State) : (onSceneChannels d f s).drive = s.drive := rfl
@[simp] theorem onSceneChannels_winch (d : Bool) (f : Fin 8 → ChannelState → ChannelState) (s : State) : (onSceneChannels d f s).winch = s.winch := rfl
@[simp] theorem onSceneChannels_assist (d : Bool) (f : Fin 8 → ChannelState → ChannelState) (s : State) : (onSceneChannels d f s).assist = s.assist := rfl
@[simp] theorem onSceneChannels_store (d : Bool) (f : Fin 8 → ChannelState → ChannelState) (s : State) : (onSceneChannels d f s).store = s.store := rfl
@[simp] theorem onSceneChannels_alert (d : Bool) (f : Fin 8 → ChannelState → ChannelState) (s : State) : (onSceneChannels d f s).alert = s.alert := rfl
@[simp] theorem onSceneChannels_pending (d : Bool) (f : Fin 8 → ChannelState → ChannelState) (s : State) : (onSceneChannels d f s).pending = s.pending := rfl

/-! `thawScene` -/

@[simp] theorem thawScene_retention (s : State) : (thawScene s).retention = s.retention := rfl
@[simp] theorem thawScene_pins (s : State) : (thawScene s).pins = s.pins := rfl
@[simp] theorem thawScene_supply (s : State) : (thawScene s).supply = s.supply := rfl
@[simp] theorem thawScene_monitor (s : State) : (thawScene s).monitor = s.monitor := rfl
@[simp] theorem thawScene_protection (s : State) : (thawScene s).protection = s.protection := rfl
@[simp] theorem thawScene_budget (s : State) : (thawScene s).budget = s.budget := rfl
@[simp] theorem thawScene_radio (s : State) : (thawScene s).radio = s.radio := rfl
@[simp] theorem thawScene_authority (s : State) : (thawScene s).authority = s.authority := rfl
@[simp] theorem thawScene_interlock (s : State) : (thawScene s).interlock = s.interlock := rfl
@[simp] theorem thawScene_steering (s : State) : (thawScene s).steering = s.steering := rfl
@[simp] theorem thawScene_drive (s : State) : (thawScene s).drive = s.drive := rfl
@[simp] theorem thawScene_winch (s : State) : (thawScene s).winch = s.winch := rfl
@[simp] theorem thawScene_assist (s : State) : (thawScene s).assist = s.assist := rfl
@[simp] theorem thawScene_store (s : State) : (thawScene s).store = s.store := rfl
@[simp] theorem thawScene_alert (s : State) : (thawScene s).alert = s.alert := rfl
@[simp] theorem thawScene_pending (s : State) : (thawScene s).pending = s.pending := rfl

/-! `forgetSource` -/

@[simp] theorem forgetSource_retention (p : ChannelState → Bool) (s : State) : (forgetSource p s).retention = s.retention := rfl
@[simp] theorem forgetSource_pins (p : ChannelState → Bool) (s : State) : (forgetSource p s).pins = s.pins := rfl
@[simp] theorem forgetSource_supply (p : ChannelState → Bool) (s : State) : (forgetSource p s).supply = s.supply := rfl
@[simp] theorem forgetSource_monitor (p : ChannelState → Bool) (s : State) : (forgetSource p s).monitor = s.monitor := rfl
@[simp] theorem forgetSource_protection (p : ChannelState → Bool) (s : State) : (forgetSource p s).protection = s.protection := rfl
@[simp] theorem forgetSource_budget (p : ChannelState → Bool) (s : State) : (forgetSource p s).budget = s.budget := rfl
@[simp] theorem forgetSource_radio (p : ChannelState → Bool) (s : State) : (forgetSource p s).radio = s.radio := rfl
@[simp] theorem forgetSource_authority (p : ChannelState → Bool) (s : State) : (forgetSource p s).authority = s.authority := rfl
@[simp] theorem forgetSource_interlock (p : ChannelState → Bool) (s : State) : (forgetSource p s).interlock = s.interlock := rfl
@[simp] theorem forgetSource_steering (p : ChannelState → Bool) (s : State) : (forgetSource p s).steering = s.steering := rfl
@[simp] theorem forgetSource_drive (p : ChannelState → Bool) (s : State) : (forgetSource p s).drive = s.drive := rfl
@[simp] theorem forgetSource_winch (p : ChannelState → Bool) (s : State) : (forgetSource p s).winch = s.winch := rfl
@[simp] theorem forgetSource_assist (p : ChannelState → Bool) (s : State) : (forgetSource p s).assist = s.assist := rfl
@[simp] theorem forgetSource_store (p : ChannelState → Bool) (s : State) : (forgetSource p s).store = s.store := rfl
@[simp] theorem forgetSource_alert (p : ChannelState → Bool) (s : State) : (forgetSource p s).alert = s.alert := rfl
@[simp] theorem forgetSource_pending (p : ChannelState → Bool) (s : State) : (forgetSource p s).pending = s.pending := rfl

/-! `forgetChannel` -/

@[simp] theorem forgetChannel_retention (i : Fin 8) (s : State) : (forgetChannel i s).retention = s.retention := rfl
@[simp] theorem forgetChannel_pins (i : Fin 8) (s : State) : (forgetChannel i s).pins = s.pins := rfl
@[simp] theorem forgetChannel_supply (i : Fin 8) (s : State) : (forgetChannel i s).supply = s.supply := rfl
@[simp] theorem forgetChannel_monitor (i : Fin 8) (s : State) : (forgetChannel i s).monitor = s.monitor := rfl
@[simp] theorem forgetChannel_protection (i : Fin 8) (s : State) : (forgetChannel i s).protection = s.protection := rfl
@[simp] theorem forgetChannel_budget (i : Fin 8) (s : State) : (forgetChannel i s).budget = s.budget := rfl
@[simp] theorem forgetChannel_radio (i : Fin 8) (s : State) : (forgetChannel i s).radio = s.radio := rfl
@[simp] theorem forgetChannel_authority (i : Fin 8) (s : State) : (forgetChannel i s).authority = s.authority := rfl
@[simp] theorem forgetChannel_interlock (i : Fin 8) (s : State) : (forgetChannel i s).interlock = s.interlock := rfl
@[simp] theorem forgetChannel_steering (i : Fin 8) (s : State) : (forgetChannel i s).steering = s.steering := rfl
@[simp] theorem forgetChannel_drive (i : Fin 8) (s : State) : (forgetChannel i s).drive = s.drive := rfl
@[simp] theorem forgetChannel_winch (i : Fin 8) (s : State) : (forgetChannel i s).winch = s.winch := rfl
@[simp] theorem forgetChannel_assist (i : Fin 8) (s : State) : (forgetChannel i s).assist = s.assist := rfl
@[simp] theorem forgetChannel_store (i : Fin 8) (s : State) : (forgetChannel i s).store = s.store := rfl
@[simp] theorem forgetChannel_alert (i : Fin 8) (s : State) : (forgetChannel i s).alert = s.alert := rfl
@[simp] theorem forgetChannel_pending (i : Fin 8) (s : State) : (forgetChannel i s).pending = s.pending := rfl

/-! `channelStepExpired` -/

@[simp] theorem channelStepExpired_retention (i : Fin 8) (s : State) : (channelStepExpired i s).retention = s.retention := rfl
@[simp] theorem channelStepExpired_pins (i : Fin 8) (s : State) : (channelStepExpired i s).pins = s.pins := rfl
@[simp] theorem channelStepExpired_supply (i : Fin 8) (s : State) : (channelStepExpired i s).supply = s.supply := rfl
@[simp] theorem channelStepExpired_monitor (i : Fin 8) (s : State) : (channelStepExpired i s).monitor = s.monitor := rfl
@[simp] theorem channelStepExpired_protection (i : Fin 8) (s : State) : (channelStepExpired i s).protection = s.protection := rfl
@[simp] theorem channelStepExpired_budget (i : Fin 8) (s : State) : (channelStepExpired i s).budget = s.budget := rfl
@[simp] theorem channelStepExpired_radio (i : Fin 8) (s : State) : (channelStepExpired i s).radio = s.radio := rfl
@[simp] theorem channelStepExpired_authority (i : Fin 8) (s : State) : (channelStepExpired i s).authority = s.authority := rfl
@[simp] theorem channelStepExpired_interlock (i : Fin 8) (s : State) : (channelStepExpired i s).interlock = s.interlock := rfl
@[simp] theorem channelStepExpired_steering (i : Fin 8) (s : State) : (channelStepExpired i s).steering = s.steering := rfl
@[simp] theorem channelStepExpired_drive (i : Fin 8) (s : State) : (channelStepExpired i s).drive = s.drive := rfl
@[simp] theorem channelStepExpired_winch (i : Fin 8) (s : State) : (channelStepExpired i s).winch = s.winch := rfl
@[simp] theorem channelStepExpired_assist (i : Fin 8) (s : State) : (channelStepExpired i s).assist = s.assist := rfl
@[simp] theorem channelStepExpired_store (i : Fin 8) (s : State) : (channelStepExpired i s).store = s.store := rfl
@[simp] theorem channelStepExpired_alert (i : Fin 8) (s : State) : (channelStepExpired i s).alert = s.alert := rfl
@[simp] theorem channelStepExpired_pending (i : Fin 8) (s : State) : (channelStepExpired i s).pending = s.pending := rfl

/-! `armTiltTimer` -/

@[simp] theorem armTiltTimer_retention (v : Bool) (s : State) : (armTiltTimer v s).retention = s.retention := rfl
@[simp] theorem armTiltTimer_pins (v : Bool) (s : State) : (armTiltTimer v s).pins = s.pins := rfl
@[simp] theorem armTiltTimer_supply (v : Bool) (s : State) : (armTiltTimer v s).supply = s.supply := rfl
@[simp] theorem armTiltTimer_monitor (v : Bool) (s : State) : (armTiltTimer v s).monitor = s.monitor := rfl
@[simp] theorem armTiltTimer_protection (v : Bool) (s : State) : (armTiltTimer v s).protection = s.protection := rfl
@[simp] theorem armTiltTimer_budget (v : Bool) (s : State) : (armTiltTimer v s).budget = s.budget := rfl
@[simp] theorem armTiltTimer_radio (v : Bool) (s : State) : (armTiltTimer v s).radio = s.radio := rfl
@[simp] theorem armTiltTimer_authority (v : Bool) (s : State) : (armTiltTimer v s).authority = s.authority := rfl
@[simp] theorem armTiltTimer_interlock (v : Bool) (s : State) : (armTiltTimer v s).interlock = s.interlock := rfl
@[simp] theorem armTiltTimer_steering (v : Bool) (s : State) : (armTiltTimer v s).steering = s.steering := rfl
@[simp] theorem armTiltTimer_drive (v : Bool) (s : State) : (armTiltTimer v s).drive = s.drive := rfl
@[simp] theorem armTiltTimer_winch (v : Bool) (s : State) : (armTiltTimer v s).winch = s.winch := rfl
@[simp] theorem armTiltTimer_assist (v : Bool) (s : State) : (armTiltTimer v s).assist = s.assist := rfl
@[simp] theorem armTiltTimer_store (v : Bool) (s : State) : (armTiltTimer v s).store = s.store := rfl
@[simp] theorem armTiltTimer_alert (v : Bool) (s : State) : (armTiltTimer v s).alert = s.alert := rfl
@[simp] theorem armTiltTimer_pending (v : Bool) (s : State) : (armTiltTimer v s).pending = s.pending := rfl

/-! `armLinkTimer` -/

@[simp] theorem armLinkTimer_retention (l : LinkState) (s : State) : (armLinkTimer l s).retention = s.retention := rfl
@[simp] theorem armLinkTimer_pins (l : LinkState) (s : State) : (armLinkTimer l s).pins = s.pins := rfl
@[simp] theorem armLinkTimer_supply (l : LinkState) (s : State) : (armLinkTimer l s).supply = s.supply := rfl
@[simp] theorem armLinkTimer_monitor (l : LinkState) (s : State) : (armLinkTimer l s).monitor = s.monitor := rfl
@[simp] theorem armLinkTimer_protection (l : LinkState) (s : State) : (armLinkTimer l s).protection = s.protection := rfl
@[simp] theorem armLinkTimer_budget (l : LinkState) (s : State) : (armLinkTimer l s).budget = s.budget := rfl
@[simp] theorem armLinkTimer_radio (l : LinkState) (s : State) : (armLinkTimer l s).radio = s.radio := rfl
@[simp] theorem armLinkTimer_authority (l : LinkState) (s : State) : (armLinkTimer l s).authority = s.authority := rfl
@[simp] theorem armLinkTimer_interlock (l : LinkState) (s : State) : (armLinkTimer l s).interlock = s.interlock := rfl
@[simp] theorem armLinkTimer_steering (l : LinkState) (s : State) : (armLinkTimer l s).steering = s.steering := rfl
@[simp] theorem armLinkTimer_drive (l : LinkState) (s : State) : (armLinkTimer l s).drive = s.drive := rfl
@[simp] theorem armLinkTimer_winch (l : LinkState) (s : State) : (armLinkTimer l s).winch = s.winch := rfl
@[simp] theorem armLinkTimer_assist (l : LinkState) (s : State) : (armLinkTimer l s).assist = s.assist := rfl
@[simp] theorem armLinkTimer_store (l : LinkState) (s : State) : (armLinkTimer l s).store = s.store := rfl
@[simp] theorem armLinkTimer_alert (l : LinkState) (s : State) : (armLinkTimer l s).alert = s.alert := rfl
@[simp] theorem armLinkTimer_pending (l : LinkState) (s : State) : (armLinkTimer l s).pending = s.pending := rfl

/-! `setShifted` -/

@[simp] theorem setShifted_retention (out : List Byte) (s : State) : (setShifted out s).retention = s.retention := rfl
@[simp] theorem setShifted_pins (out : List Byte) (s : State) : (setShifted out s).pins = s.pins := rfl
@[simp] theorem setShifted_supply (out : List Byte) (s : State) : (setShifted out s).supply = s.supply := rfl
@[simp] theorem setShifted_monitor (out : List Byte) (s : State) : (setShifted out s).monitor = s.monitor := rfl
@[simp] theorem setShifted_protection (out : List Byte) (s : State) : (setShifted out s).protection = s.protection := rfl
@[simp] theorem setShifted_budget (out : List Byte) (s : State) : (setShifted out s).budget = s.budget := rfl
@[simp] theorem setShifted_radio (out : List Byte) (s : State) : (setShifted out s).radio = s.radio := rfl
@[simp] theorem setShifted_authority (out : List Byte) (s : State) : (setShifted out s).authority = s.authority := rfl
@[simp] theorem setShifted_interlock (out : List Byte) (s : State) : (setShifted out s).interlock = s.interlock := rfl
@[simp] theorem setShifted_steering (out : List Byte) (s : State) : (setShifted out s).steering = s.steering := rfl
@[simp] theorem setShifted_drive (out : List Byte) (s : State) : (setShifted out s).drive = s.drive := rfl
@[simp] theorem setShifted_winch (out : List Byte) (s : State) : (setShifted out s).winch = s.winch := rfl
@[simp] theorem setShifted_lights (out : List Byte) (s : State) : (setShifted out s).lights = s.lights := rfl
@[simp] theorem setShifted_store (out : List Byte) (s : State) : (setShifted out s).store = s.store := rfl
@[simp] theorem setShifted_alert (out : List Byte) (s : State) : (setShifted out s).alert = s.alert := rfl
@[simp] theorem setShifted_pending (out : List Byte) (s : State) : (setShifted out s).pending = s.pending := rfl

/-! `respond` -/

@[simp] theorem respond_retention (code : Byte) (st : Status) (data : List Byte) (s : State) : (respond code st data s).retention = s.retention := rfl
@[simp] theorem respond_pins (code : Byte) (st : Status) (data : List Byte) (s : State) : (respond code st data s).pins = s.pins := rfl
@[simp] theorem respond_supply (code : Byte) (st : Status) (data : List Byte) (s : State) : (respond code st data s).supply = s.supply := rfl
@[simp] theorem respond_monitor (code : Byte) (st : Status) (data : List Byte) (s : State) : (respond code st data s).monitor = s.monitor := rfl
@[simp] theorem respond_protection (code : Byte) (st : Status) (data : List Byte) (s : State) : (respond code st data s).protection = s.protection := rfl
@[simp] theorem respond_budget (code : Byte) (st : Status) (data : List Byte) (s : State) : (respond code st data s).budget = s.budget := rfl
@[simp] theorem respond_radio (code : Byte) (st : Status) (data : List Byte) (s : State) : (respond code st data s).radio = s.radio := rfl
@[simp] theorem respond_authority (code : Byte) (st : Status) (data : List Byte) (s : State) : (respond code st data s).authority = s.authority := rfl
@[simp] theorem respond_interlock (code : Byte) (st : Status) (data : List Byte) (s : State) : (respond code st data s).interlock = s.interlock := rfl
@[simp] theorem respond_steering (code : Byte) (st : Status) (data : List Byte) (s : State) : (respond code st data s).steering = s.steering := rfl
@[simp] theorem respond_drive (code : Byte) (st : Status) (data : List Byte) (s : State) : (respond code st data s).drive = s.drive := rfl
@[simp] theorem respond_winch (code : Byte) (st : Status) (data : List Byte) (s : State) : (respond code st data s).winch = s.winch := rfl
@[simp] theorem respond_lights (code : Byte) (st : Status) (data : List Byte) (s : State) : (respond code st data s).lights = s.lights := rfl
@[simp] theorem respond_store (code : Byte) (st : Status) (data : List Byte) (s : State) : (respond code st data s).store = s.store := rfl
@[simp] theorem respond_alert (code : Byte) (st : Status) (data : List Byte) (s : State) : (respond code st data s).alert = s.alert := rfl
@[simp] theorem respond_pending (code : Byte) (st : Status) (data : List Byte) (s : State) : (respond code st data s).pending = s.pending := rfl

/-! `setWorking` -/

@[simp] theorem setWorking_retention (w : Settings) (s : State) : (setWorking w s).retention = s.retention := rfl
@[simp] theorem setWorking_pins (w : Settings) (s : State) : (setWorking w s).pins = s.pins := rfl
@[simp] theorem setWorking_supply (w : Settings) (s : State) : (setWorking w s).supply = s.supply := rfl
@[simp] theorem setWorking_monitor (w : Settings) (s : State) : (setWorking w s).monitor = s.monitor := rfl
@[simp] theorem setWorking_protection (w : Settings) (s : State) : (setWorking w s).protection = s.protection := rfl
@[simp] theorem setWorking_budget (w : Settings) (s : State) : (setWorking w s).budget = s.budget := rfl
@[simp] theorem setWorking_radio (w : Settings) (s : State) : (setWorking w s).radio = s.radio := rfl
@[simp] theorem setWorking_authority (w : Settings) (s : State) : (setWorking w s).authority = s.authority := rfl
@[simp] theorem setWorking_interlock (w : Settings) (s : State) : (setWorking w s).interlock = s.interlock := rfl
@[simp] theorem setWorking_steering (w : Settings) (s : State) : (setWorking w s).steering = s.steering := rfl
@[simp] theorem setWorking_drive (w : Settings) (s : State) : (setWorking w s).drive = s.drive := rfl
@[simp] theorem setWorking_winch (w : Settings) (s : State) : (setWorking w s).winch = s.winch := rfl
@[simp] theorem setWorking_lights (w : Settings) (s : State) : (setWorking w s).lights = s.lights := rfl
@[simp] theorem setWorking_assist (w : Settings) (s : State) : (setWorking w s).assist = s.assist := rfl
@[simp] theorem setWorking_alert (w : Settings) (s : State) : (setWorking w s).alert = s.alert := rfl
@[simp] theorem setWorking_pending (w : Settings) (s : State) : (setWorking w s).pending = s.pending := rfl

/-! `beginCommit` -/

@[simp] theorem beginCommit_retention (s : State) : (beginCommit s).retention = s.retention := rfl
@[simp] theorem beginCommit_pins (s : State) : (beginCommit s).pins = s.pins := rfl
@[simp] theorem beginCommit_supply (s : State) : (beginCommit s).supply = s.supply := rfl
@[simp] theorem beginCommit_monitor (s : State) : (beginCommit s).monitor = s.monitor := rfl
@[simp] theorem beginCommit_protection (s : State) : (beginCommit s).protection = s.protection := rfl
@[simp] theorem beginCommit_budget (s : State) : (beginCommit s).budget = s.budget := rfl
@[simp] theorem beginCommit_radio (s : State) : (beginCommit s).radio = s.radio := rfl
@[simp] theorem beginCommit_authority (s : State) : (beginCommit s).authority = s.authority := rfl
@[simp] theorem beginCommit_interlock (s : State) : (beginCommit s).interlock = s.interlock := rfl
@[simp] theorem beginCommit_steering (s : State) : (beginCommit s).steering = s.steering := rfl
@[simp] theorem beginCommit_drive (s : State) : (beginCommit s).drive = s.drive := rfl
@[simp] theorem beginCommit_winch (s : State) : (beginCommit s).winch = s.winch := rfl
@[simp] theorem beginCommit_lights (s : State) : (beginCommit s).lights = s.lights := rfl
@[simp] theorem beginCommit_assist (s : State) : (beginCommit s).assist = s.assist := rfl
@[simp] theorem beginCommit_alert (s : State) : (beginCommit s).alert = s.alert := rfl
@[simp] theorem beginCommit_pending (s : State) : (beginCommit s).pending = s.pending := rfl

/-! `setFreeze` -/

@[simp] theorem setFreeze_retention (d : Direction) (z : Option WinchFreeze) (s : State) :
    (setFreeze d z s).retention = s.retention := by cases d <;> rfl
@[simp] theorem setFreeze_pins (d : Direction) (z : Option WinchFreeze) (s : State) :
    (setFreeze d z s).pins = s.pins := by cases d <;> rfl
@[simp] theorem setFreeze_supply (d : Direction) (z : Option WinchFreeze) (s : State) :
    (setFreeze d z s).supply = s.supply := by cases d <;> rfl
@[simp] theorem setFreeze_monitor (d : Direction) (z : Option WinchFreeze) (s : State) :
    (setFreeze d z s).monitor = s.monitor := by cases d <;> rfl
@[simp] theorem setFreeze_protection (d : Direction) (z : Option WinchFreeze) (s : State) :
    (setFreeze d z s).protection = s.protection := by cases d <;> rfl
@[simp] theorem setFreeze_budget (d : Direction) (z : Option WinchFreeze) (s : State) :
    (setFreeze d z s).budget = s.budget := by cases d <;> rfl
@[simp] theorem setFreeze_radio (d : Direction) (z : Option WinchFreeze) (s : State) :
    (setFreeze d z s).radio = s.radio := by cases d <;> rfl
@[simp] theorem setFreeze_authority (d : Direction) (z : Option WinchFreeze) (s : State) :
    (setFreeze d z s).authority = s.authority := by cases d <;> rfl
@[simp] theorem setFreeze_interlock (d : Direction) (z : Option WinchFreeze) (s : State) :
    (setFreeze d z s).interlock = s.interlock := by cases d <;> rfl
@[simp] theorem setFreeze_steering (d : Direction) (z : Option WinchFreeze) (s : State) :
    (setFreeze d z s).steering = s.steering := by cases d <;> rfl
@[simp] theorem setFreeze_drive (d : Direction) (z : Option WinchFreeze) (s : State) :
    (setFreeze d z s).drive = s.drive := by cases d <;> rfl
@[simp] theorem setFreeze_lights (d : Direction) (z : Option WinchFreeze) (s : State) :
    (setFreeze d z s).lights = s.lights := by cases d <;> rfl
@[simp] theorem setFreeze_assist (d : Direction) (z : Option WinchFreeze) (s : State) :
    (setFreeze d z s).assist = s.assist := by cases d <;> rfl
@[simp] theorem setFreeze_store (d : Direction) (z : Option WinchFreeze) (s : State) :
    (setFreeze d z s).store = s.store := by cases d <;> rfl
@[simp] theorem setFreeze_alert (d : Direction) (z : Option WinchFreeze) (s : State) :
    (setFreeze d z s).alert = s.alert := by cases d <;> rfl
@[simp] theorem setFreeze_pending (d : Direction) (z : Option WinchFreeze) (s : State) :
    (setFreeze d z s).pending = s.pending := by cases d <;> rfl

end Sys2Proof.Machine
end

