-- ==== Sys2Proof/Laws/Still.lean ====
section
/-! SUPPORT. What an evaluation of the Interlock Unit, and the owners of the targets under it, cannot do: one lemma per shared
operation, each saying that the operation moves nothing but what `State.still` blanks, only ever adds to the log, and leaves
ALERT judged. -/
namespace Sys2Proof.Machine

/-- `t` comes from `s` by an evaluation and the answers of the target owners to it. -/
structure Quiet (s t : State) : Prop where
  still : t.still = s.still
  log   : grows s.now s.retention.log t.retention.log
  alert : AlertOk s → AlertOk t
  idle  : t.supply.idle = s.supply.idle ∨ t.supply.idle = (restartIdle s).supply.idle

/-- The counter, read through the view. -/
theorem now_of_still {s t : State} (h : t.still = s.still) : t.now = s.now := by
  have := congrArg (fun u : State => u.retention.counter) h
  simpa [State.still, State.now] using this

/-- A restart of the idle timer reads nothing the view blanks. -/
theorem restartIdle_of_still {s t : State} (h : t.still = s.still) :
    (restartIdle t).supply.idle = (restartIdle s).supply.idle := by
  have hc : t.store = s.store := by
    have k := congrArg (fun u : State => u.store) h
    exact k
  have hst : t.supply.state = s.supply.state := by
    have k := congrArg (fun u : State => u.supply.state) h
    exact k
  by_cases hp : s.supply.state = .active ∧ s.store.working.supply.parkIdleMin ≠ 0 <;>
    simp [restartIdle, State.cfg, hc, hst, hp, now_of_still h]

theorem Quiet.refl (s : State) : Quiet s s := ⟨rfl, grows_refl _ _, id, Or.inl rfl⟩

theorem Quiet.trans {a b c : State} (h : Quiet a b) (k : Quiet b c) : Quiet a c := by
  refine ⟨k.still.trans h.still, grows_trans h.log (by have := k.log; rwa [now_of_still h.still] at this),
    fun x => k.alert (h.alert x), ?_⟩
  rcases k.idle with e | e
  · rw [e]; exact h.idle
  · rw [e, restartIdle_of_still h.still]; exact Or.inr rfl

/-- An update that leaves the log, ALERT and the idle timer and touches nothing the view shows. -/
theorem quiet_of_update {s t : State} (hs : t.still = s.still) (hl : t.retention.log = s.retention.log)
    (ha : t.alert = s.alert) (hi : t.supply.idle = s.supply.idle) : Quiet s t := by
  refine ⟨hs, by rw [hl]; exact grows_refl _ _, ?_, Or.inl hi⟩
  intro h hp
  have hst : t.supply.state = s.supply.state := by
    have k := congrArg (fun u : State => u.supply.state) hs
    exact k
  have hc : t.store = s.store := by
    have k := congrArg (fun u : State => u.store) hs
    exact k
  have := h (by simpa [State.powered, hst] using hp)
  simp only [State.cfg, hc, hl, ha] at *
  exact this

/-- A conditional update. -/
theorem quiet_ite {p : Prop} [Decidable p] {s a b : State} (ha : p → Quiet s a) (hb : ¬p → Quiet s b) :
    Quiet s (if p then a else b) := by
  split
  · exact ha ‹_›
  · exact hb ‹_›

/-! ## The log, the idle timer, the lights -/

theorem quiet_enterLog (k : LogKind) (d : List Nat) (s : State) : Quiet s (enterLog k d s) := by
  refine ⟨?_, ?_, fun _ => enterLog_alertOk k d s, Or.inl (by simp)⟩
  · simp [State.still]
  · rw [enterLog_retention]
    exact ⟨[record s k d], by simp [record], rfl⟩

theorem quiet_restartIdle (s : State) : Quiet s (restartIdle s) := ⟨rfl, grows_refl _ _, id, Or.inr rfl⟩

theorem quiet_lightsRefresh (s : State) : Quiet s (lightsRefresh s) := by
  refine quiet_of_update ?_ (by simp) (by simp) (by simp)
  simp [State.still, lightsRefresh, reportLightDemands, decideSources, judgeBlinker]

theorem quiet_onSceneChannels (d : Bool) (f : Fin 8 → ChannelState → ChannelState) (s : State) :
    Quiet s (onSceneChannels d f s) := quiet_of_update rfl rfl rfl rfl

theorem quiet_thawScene (s : State) : Quiet s (thawScene s) := quiet_of_update rfl rfl rfl rfl

theorem quiet_lightsTarget (o n : TargetState) (s : State) : Quiet s (lightsTarget o n s) := by
  unfold lightsTarget
  cases n
  · exact quiet_ite (fun _ => quiet_thawScene s) (fun _ => Quiet.refl s)
  · exact quiet_ite (fun _ => quiet_onSceneChannels _ _ s) (fun _ => quiet_onSceneChannels _ _ s)
  · exact quiet_of_update rfl rfl rfl rfl

/-! ## The winch -/

theorem quiet_judgeNeutralRun (s : State) : Quiet s (judgeNeutralRun s) := quiet_of_update rfl rfl rfl rfl

theorem quiet_winchEnter (st : WinchState) (u : Nat) (s : State) : Quiet s (winchEnter st u s) := by
  unfold winchEnter
  refine quiet_ite (fun _ => ?_) (fun _ => ?_)
  · exact quiet_ite (fun _ => quiet_of_update rfl rfl rfl rfl) (fun _ => quiet_of_update rfl rfl rfl rfl)
  · refine Quiet.trans ?_ (quiet_restartIdle _)
    exact quiet_ite (fun _ => quiet_of_update rfl rfl rfl rfl) (fun _ => quiet_of_update rfl rfl rfl rfl)

theorem quiet_winchStop (s : State) : Quiet s (winchStop s) := by
  unfold winchStop
  cases s.winch.st
  case hauling => exact quiet_winchEnter _ _ s
  case payingOut => exact quiet_winchEnter _ _ s
  case free => exact quiet_winchEnter _ _ s
  all_goals exact Quiet.refl s

theorem quiet_resumeWinchExpiry (s : State) : Quiet s (resumeWinchExpiry s) := by
  refine quiet_of_update ?_ rfl rfl rfl
  simp only [State.still, resumeWinchExpiry]
  cases h : s.authority.entries.winch.claim with
  | none => simp
  | some c => cases h' : c.expiry <;> simp [Claim.noExpiry, h']

theorem quiet_setQueue (q : List Job) (s : State) : Quiet s (setQueue q s) := by
  unfold setQueue
  refine quiet_ite (fun _ => ?_) (fun _ => quiet_of_update rfl rfl rfl rfl)
  refine Quiet.trans ?_ (quiet_resumeWinchExpiry _)
  exact quiet_of_update rfl rfl rfl rfl

theorem quiet_logFlushed (n : Nat) (s : State) : Quiet s (logFlushed n s) := by
  unfold logFlushed
  exact quiet_ite (fun _ => Quiet.refl s) (fun _ => quiet_enterLog _ _ s)

theorem quiet_endJob (o : JobOutcome) (s : State) : Quiet s (endJob o s) := by
  unfold endJob
  split
  · refine quiet_ite (fun _ => ?_) (fun _ => ?_)
    · exact (quiet_enterLog _ _ s).trans (quiet_setQueue _ _)
    · exact ((quiet_enterLog _ _ s).trans (quiet_logFlushed _ _)).trans (quiet_setQueue _ _)
  · exact Quiet.refl s

theorem quiet_abortJobs (s : State) : Quiet s (abortJobs s) := by
  unfold abortJobs
  split
  · exact quiet_endJob _ s
  · exact quiet_ite (fun _ => Quiet.refl s) (fun _ => (quiet_logFlushed _ s).trans (quiet_setQueue _ _))

theorem quiet_revokeJobs (s : State) : Quiet s (revokeJobs s) := by
  unfold revokeJobs
  exact quiet_ite (fun _ => (quiet_winchStop s).trans (quiet_abortJobs _)) (fun _ => quiet_abortJobs s)

theorem quiet_winchCutoff (s : State) : Quiet s (winchCutoff s) := (quiet_winchStop s).trans (quiet_abortJobs _)

theorem quiet_winchPark (s : State) : Quiet s (winchPark s) := (quiet_abortJobs s).trans (quiet_winchEnter _ _ _)

theorem quiet_setFreeze (d : Direction) (f : Option WinchFreeze) (s : State) : Quiet s (setFreeze d f s) := by
  cases d <;> exact quiet_of_update rfl rfl rfl rfl

theorem quiet_winchTarget (d : Direction) (o n : TargetState) (s : State) : Quiet s (winchTarget d o n s) := by
  unfold winchTarget
  cases n
  · exact quiet_setFreeze _ _ s
  · exact quiet_setFreeze _ _ s
  · refine quiet_ite (fun _ => Quiet.trans ?_ (quiet_abortJobs _)) (fun _ => ?_)
    · exact quiet_ite (fun _ => (quiet_setFreeze _ _ s).trans (quiet_winchEnter _ _ _)) (fun _ => quiet_setFreeze _ _ s)
    · exact quiet_ite (fun _ => (quiet_setFreeze _ _ s).trans (quiet_winchEnter _ _ _)) (fun _ => quiet_setFreeze _ _ s)

theorem quiet_clearStall (s : State) : Quiet s (clearStall s) := quiet_winchEnter _ _ s

theorem quiet_toggleFree (s : State) : Quiet s (toggleFree s) := by
  unfold toggleFree
  refine quiet_ite (fun _ => Quiet.refl s) (fun _ => ?_)
  cases s.winch.st
  case idle => exact quiet_ite (fun _ => Quiet.refl s) (fun _ => quiet_winchEnter _ _ s)
  case free => exact quiet_winchEnter _ _ s
  all_goals exact Quiet.refl s

/-! ## The drive and the steering -/

theorem quiet_driveFwdTarget (o n : TargetState) (s : State) : Quiet s (driveFwdTarget o n s) := quiet_of_update rfl rfl rfl rfl

theorem quiet_driveRevTarget (o n : TargetState) (s : State) : Quiet s (driveRevTarget o n s) := quiet_of_update rfl rfl rfl rfl

theorem quiet_steerRearTarget (o n : TargetState) (s : State) : Quiet s (steerRearTarget o n s) :=
  quiet_of_update rfl rfl rfl rfl

theorem quiet_judgeSettled (s : State) : Quiet s (judgeSettled s) := quiet_of_update rfl rfl rfl rfl

theorem quiet_setPhase (p : Phase) (s : State) : Quiet s (setPhase p s) := by
  unfold setPhase
  refine quiet_ite (fun _ => Quiet.refl s) (fun _ => ?_)
  exact Quiet.trans (quiet_of_update (t := judgeSettled { s with steering := { s.steering with phase := p } }) rfl rfl rfl rfl)
    (quiet_restartIdle _)

theorem quiet_setWaiting (m : Option Mode) (s : State) : Quiet s (setWaiting m s) := quiet_of_update rfl rfl rfl rfl

theorem quiet_beginTransition (m : Mode) (s : State) : Quiet s (beginTransition m s) := by
  unfold beginTransition
  refine Quiet.trans ?_ (quiet_setPhase _ _)
  exact quiet_of_update rfl rfl rfl rfl

theorem quiet_replaceTransition (m : Mode) (s : State) : Quiet s (replaceTransition m s) := quiet_of_update rfl rfl rfl rfl

theorem quiet_logDropped (m : Mode) (r : Nat) (s : State) : Quiet s (logDropped m r s) := quiet_enterLog _ _ s

theorem quiet_logForced (r : Nat) (s : State) : Quiet s (logForced r s) := quiet_enterLog _ _ s

theorem quiet_modeRequest (m : Mode) (s : State) : Quiet s (modeRequest m s) := by
  unfold modeRequest
  refine quiet_ite (fun _ => Quiet.refl s) (fun _ => ?_)
  split
  · exact quiet_beginTransition _ s
  · exact (quiet_setWaiting _ s).trans (quiet_setPhase _ _)
  · exact quiet_logDropped _ _ s
  · exact quiet_ite (fun _ => (quiet_setWaiting _ s).trans (quiet_setPhase _ _)) (fun _ => quiet_setWaiting _ s)
  · exact quiet_replaceTransition _ s
  · exact quiet_setWaiting _ s
  · exact quiet_logDropped _ _ s

theorem quiet_modeChangeTarget (o n : TargetState) (s : State) : Quiet s (modeChangeTarget o n s) := by
  unfold modeChangeTarget
  cases n
  · dsimp only
    split
    · exact Quiet.refl s
    · split
      · exact quiet_beginTransition _ s
      · exact quiet_replaceTransition _ s
      · exact Quiet.refl s
  · exact Quiet.refl s
  · dsimp only
    split
    · exact Quiet.refl s
    · exact quiet_ite
        (fun _ => ((quiet_setWaiting _ s).trans (quiet_logDropped _ _ _)).trans (quiet_setPhase _ _))
        (fun _ => (quiet_setWaiting _ s).trans (quiet_logDropped _ _ _))

theorem quiet_handMode (m : Mode) (s : State) : Quiet s (handMode m s) := by
  unfold handMode
  exact quiet_ite (fun _ => quiet_modeRequest _ s) (fun _ => Quiet.refl s)

theorem quiet_forceTransition (s : State) : Quiet s (forceTransition s) := by
  unfold forceTransition
  dsimp only
  refine Quiet.trans (b := setPhase (phaseAtRest s)
    { logForced 0 s with steering := { (logForced 0 s).steering with timer := none } }) ?_ (quiet_of_update rfl rfl rfl rfl)
  refine Quiet.trans ?_ (quiet_setPhase _ _)
  exact (quiet_logForced 0 s).trans (quiet_of_update rfl rfl rfl rfl)

theorem quiet_steerPark (s : State) : Quiet s (steerPark s) := by
  unfold steerPark
  refine Quiet.trans (b := if s.steering.phase = .transition then logForced 1 s else s)
    (quiet_ite (fun _ => quiet_logForced _ s) (fun _ => Quiet.refl s)) ?_
  generalize (if s.steering.phase = .transition then logForced 1 s else s) = a
  refine Quiet.trans (b := match s.steering.waiting with | some m => logDropped m 1 a | none => a) ?_ ?_
  · split
    · exact quiet_logDropped _ _ a
    · exact Quiet.refl a
  · refine Quiet.trans ?_ (quiet_setPhase .steady _)
    exact quiet_of_update rfl rfl rfl rfl

/-! ## The Interlock Unit -/

theorem quiet_ownerTakes (t : Target) (o n : TargetState) (s : State) : Quiet s (ownerTakes t o n s) := by
  cases t
  · exact quiet_driveFwdTarget o n s
  · exact quiet_driveRevTarget o n s
  · exact quiet_steerRearTarget o n s
  · exact quiet_modeChangeTarget o n s
  · exact quiet_winchTarget .haul o n s
  · exact quiet_winchTarget .payout o n s
  · exact (quiet_lightsTarget o n s).trans (quiet_lightsRefresh _)

theorem quiet_handTarget (old : PerTarget TargetState) (t : Target) (s : State) : Quiet s (handTarget old t s) := by
  unfold handTarget
  exact quiet_ite (fun _ => Quiet.refl s) (fun _ => quiet_ownerTakes t _ _ s)

theorem quiet_logReleased (old : PerTarget TargetState) (t : Target) (s : State) : Quiet s (logReleased old t s) := by
  unfold logReleased
  exact quiet_ite (fun _ => quiet_enterLog _ _ s) (fun _ => Quiet.refl s)

theorem quiet_foldl {α : Type} (f : State → α → State) (h : ∀ s a, Quiet s (f s a)) (l : List α) (s : State) :
    Quiet s (l.foldl f s) := by
  induction l generalizing s with
  | nil => exact Quiet.refl s
  | cons a l ih => exact (h s a).trans (ih _)

theorem quiet_settleTargets (old : PerTarget TargetState) (s : State) : Quiet s (settleTargets old s) :=
  (quiet_foldl _ (fun s t => quiet_logReleased old t s) allTargets s).trans
    (quiet_foldl _ (fun s t => quiet_handTarget old t s) allTargets _)

theorem quiet_evaluate (ch : Changes) (s : State) : Quiet s (evaluate ch s) := by
  unfold evaluate
  refine Quiet.trans ?_ (quiet_settleTargets _ _)
  exact quiet_of_update rfl rfl rfl rfl

theorem quiet_cascade (n : Nat) (ch : Changes) (s : State) : Quiet s (cascade n ch s) := by
  induction n generalizing ch s with
  | zero => exact Quiet.refl s
  | succ n ih =>
    unfold cascade
    split
    · exact Quiet.refl s
    · exact ((quiet_evaluate _ s).trans (ih _ _)).trans (ih _ _)

/-- One evaluation of a change, with all it brings about (R114, R115). -/
theorem quiet_notify (ch : Changes) (s : State) : Quiet s (notify ch s) :=
  (quiet_cascade 6 ch s).trans (quiet_lightsRefresh _)

theorem quiet_notifyWinch (s : State) : Quiet s (notifyWinch s) := quiet_notify _ s

theorem quiet_notifySteering (s : State) : Quiet s (notifySteering s) := quiet_notify _ s

theorem quiet_reevaluate (k : Conds) (s : State) : Quiet s (reevaluate k s) := by
  unfold reevaluate
  refine Quiet.trans (Quiet.trans (Quiet.trans (Quiet.trans ?_ (quiet_settleTargets _ _)) (quiet_cascade 6 _ _))
    (quiet_cascade 6 _ _)) (quiet_lightsRefresh _)
  exact quiet_of_update rfl rfl rfl rfl

/-! ## What the view says of the parts a later proof asks for -/

theorem still_pins {s t : State} (h : t.still = s.still) : t.pins = s.pins := by
  have k := congrArg (fun u : State => u.pins) h
  exact k

theorem still_monitor {s t : State} (h : t.still = s.still) : t.monitor = s.monitor := by
  have k := congrArg (fun u : State => u.monitor) h
  exact k

theorem still_protection {s t : State} (h : t.still = s.still) : t.protection = s.protection := by
  have k := congrArg (fun u : State => u.protection) h
  exact k

theorem still_budget {s t : State} (h : t.still = s.still) : t.budget = s.budget := by
  have k := congrArg (fun u : State => u.budget) h
  exact k

theorem still_radio {s t : State} (h : t.still = s.still) : t.radio = s.radio := by
  have k := congrArg (fun u : State => u.radio) h
  exact k

theorem still_assist {s t : State} (h : t.still = s.still) : t.assist = s.assist := by
  have k := congrArg (fun u : State => u.assist) h
  exact k

theorem still_store {s t : State} (h : t.still = s.still) : t.store = s.store := by
  have k := congrArg (fun u : State => u.store) h
  exact k

theorem still_pending {s t : State} (h : t.still = s.still) : t.pending = s.pending := by
  have k := congrArg (fun u : State => u.pending) h
  exact k

theorem still_cfg {s t : State} (h : t.still = s.still) : t.cfg = s.cfg := by
  have k := congrArg (fun u : State => u.store.working) h
  exact k

theorem still_identity {s t : State} (h : t.still = s.still) : t.retention.identity = s.retention.identity := by
  have k := congrArg (fun u : State => u.retention.identity) h
  exact k

theorem still_valid {s t : State} (h : t.still = s.still) : t.retention.valid = s.retention.valid := by
  have k := congrArg (fun u : State => u.retention.valid) h
  exact k

theorem still_lineCount {s t : State} (h : t.still = s.still) : t.retention.lineCount = s.retention.lineCount := by
  have k := congrArg (fun u : State => u.retention.lineCount) h
  exact k

theorem still_flags {s t : State} (h : t.still = s.still) : t.retention.flags = s.retention.flags := by
  have k := congrArg (fun u : State => u.retention.flags) h
  exact k

theorem still_supplyState {s t : State} (h : t.still = s.still) : t.supply.state = s.supply.state := by
  have k := congrArg (fun u : State => u.supply.state) h
  exact k

theorem still_commands {s t : State} (h : t.still = s.still) : t.authority.commands = s.authority.commands := by
  have k := congrArg (fun u : State => u.authority.commands) h
  exact k

theorem still_stowed {s t : State} (h : t.still = s.still) : t.winch.stowed = s.winch.stowed := by
  have k := congrArg (fun u : State => u.winch.stowed) h
  exact k

theorem still_winchClock {s t : State} (h : t.still = s.still) : t.winch.clock = s.winch.clock := by
  have k := congrArg (fun u : State => u.winch.clock) h
  exact k

theorem still_tilted {s t : State} (h : t.still = s.still) : t.lights.tilted = s.lights.tilted := by
  have k := congrArg (fun u : State => u.lights.tilted) h
  exact k

theorem still_locate {s t : State} (h : t.still = s.still) : t.lights.locate = s.lights.locate := by
  have k := congrArg (fun u : State => u.lights.locate) h
  exact k

theorem still_dEff {s t : State} (h : t.still = s.still) : t.drive.dEff = s.drive.dEff := by
  have k := congrArg (fun u : State => u.drive.dEff) h
  exact k

theorem still_powered {s t : State} (h : t.still = s.still) : t.powered = s.powered := by
  simp only [State.powered, still_supplyState h]

end Sys2Proof.Machine
end

