-- ==== Sys2Proof/Laws/Evaluation.lean ====
section
/-! SUPPORT. What one evaluation of the Interlock Unit can do to the owners of its targets (R114, R118, R119): it starts no
motion of the winch, adds no job, touches no claim while no job is held, and leaves a steady mode protocol steady. -/
namespace Sys2Proof.Machine

/-- `t` comes from `s` by evaluations and the answers of the target owners to them. -/
structure Evaluated (s t : State) : Prop where
  quiet  : Quiet s t
  rest   : s.winch.st.moves = false → t.winch.st = s.winch.st
  motion : t.winch.st.moves = true → t.winch.st = s.winch.st
  queue  : t.winch.queue <:+ s.winch.queue
  claims : s.winch.queue = [] → t.authority = s.authority
  steady : s.steering.phase = .steady → s.steering.waiting = none → t.steering = { s.steering with freeze := t.steering.freeze }

theorem Evaluated.refl (s : State) : Evaluated s s :=
  ⟨Quiet.refl s, fun _ => rfl, fun _ => rfl, List.suffix_refl _, fun _ => rfl, fun _ _ => rfl⟩

theorem Evaluated.trans {a b c : State} (h : Evaluated a b) (k : Evaluated b c) : Evaluated a c := by
  refine ⟨h.quiet.trans k.quiet, ?_, ?_, k.queue.trans h.queue, ?_, ?_⟩
  · intro x
    have e := h.rest x
    rw [← e] at x
    exact (k.rest x).trans e
  · intro x
    have e := k.motion x
    rw [e] at x
    exact e.trans (h.motion x)
  · intro x
    have e := h.claims x
    have q : b.winch.queue = [] := List.suffix_nil.1 (x ▸ h.queue)
    exact (k.claims q).trans e
  · intro x y
    have e := h.steady x y
    have hp : b.steering.phase = .steady := by rw [e]; exact x
    have hw : b.steering.waiting = none := by rw [e]; exact y
    have f := k.steady hp hw
    rw [f, e]

theorem evaluated_ite {p : Prop} [Decidable p] {s a b : State} (ha : p → Evaluated s a) (hb : ¬p → Evaluated s b) :
    Evaluated s (if p then a else b) := by
  split
  · exact ha ‹_›
  · exact hb ‹_›

/-- An update that leaves the winch, the claims and the steering as they are. -/
theorem evaluated_of_quiet {s t : State} (h : Quiet s t) (hw : t.winch = s.winch) (ha : t.authority = s.authority)
    (hs : t.steering = { s.steering with freeze := t.steering.freeze }) : Evaluated s t :=
  ⟨h, fun _ => by rw [hw], fun _ => by rw [hw], hw.symm ▸ List.suffix_refl _, fun _ => ha, fun _ _ => hs⟩

theorem evaluated_enterLog (k : LogKind) (d : List Nat) (s : State) : Evaluated s (enterLog k d s) :=
  evaluated_of_quiet (quiet_enterLog k d s) (by simp) (by simp) (by simp)

theorem evaluated_lightsRefresh (s : State) : Evaluated s (lightsRefresh s) :=
  evaluated_of_quiet (quiet_lightsRefresh s) (by simp) (by simp) (by simp)

theorem evaluated_lightsTarget (o n : TargetState) (s : State) : Evaluated s (lightsTarget o n s) := by
  refine evaluated_of_quiet (quiet_lightsTarget o n s) ?_ ?_ ?_ <;>
  · unfold lightsTarget
    cases n <;> dsimp only <;> first | rfl | (split <;> rfl)

/-! ## The winch -/

theorem setQueue_winch (q : List Job) (s : State) :
    (setQueue q s).winch = { s.winch with queue := q, running := none } := by
  unfold setQueue
  dsimp only
  split <;> simp

theorem setQueue_steering (q : List Job) (s : State) : (setQueue q s).steering = s.steering := by
  unfold setQueue
  dsimp only
  split <;> simp

theorem logFlushed_winch (n : Nat) (s : State) : (logFlushed n s).winch = s.winch := by
  unfold logFlushed; split <;> simp

theorem logFlushed_steering (n : Nat) (s : State) : (logFlushed n s).steering = s.steering := by
  unfold logFlushed; split <;> simp

theorem endJob_steering (o : JobOutcome) (s : State) : (endJob o s).steering = s.steering := by
  unfold endJob
  split
  · split <;> simp [setQueue_steering, logFlushed_steering]
  · rfl

/-- The end of a job takes it from the queue, with the rest after an outcome other than DONE, and no more of the winch. -/
theorem endJob_winch (o : JobOutcome) (s : State) :
    (endJob o s).winch = s.winch ∨
      ∃ q, q <:+ s.winch.queue ∧ s.winch.queue ≠ [] ∧ (endJob o s).winch = { s.winch with queue := q, running := none } := by
  unfold endJob
  split
  · rename_i r j rest _ hq
    right
    split
    · exact ⟨rest, by rw [hq]; exact List.suffix_cons _ _, by simp [hq], by simp [setQueue_winch]⟩
    · exact ⟨[], List.nil_suffix, by simp [hq], by simp [setQueue_winch, logFlushed_winch]⟩
  · exact Or.inl rfl

theorem endJob_jobless (o : JobOutcome) (s : State) (h : s.winch.queue = []) : endJob o s = s := by
  unfold endJob
  split
  · rename_i hq; rw [h] at hq; exact absurd hq (by simp)
  · rfl

theorem abortJobs_jobless (s : State) (h : s.winch.queue = []) : abortJobs s = s := by
  unfold abortJobs
  split
  · rename_i hq; rw [h] at hq; exact absurd hq (by simp)
  · rename_i q hq; simp [h]

theorem abortJobs_steering (s : State) : (abortJobs s).steering = s.steering := by
  unfold abortJobs
  split
  · exact endJob_steering _ _
  · split
    · rfl
    · rw [setQueue_steering, logFlushed_steering]

/-- Once jobs are aborted none is left. -/
theorem abortJobs_queue (s : State) : (abortJobs s).winch.queue = [] := by
  unfold abortJobs
  split
  · rename_i hr hq
    unfold endJob
    rw [hr, hq]
    simp [setQueue_winch]
  · split
    · rename_i h; exact List.isEmpty_iff.1 h
    · rw [setQueue_winch]

theorem abortJobs_st (s : State) : (abortJobs s).winch.st = s.winch.st := by
  unfold abortJobs
  split
  · rcases endJob_winch .aborted s with e | ⟨q, _, _, e⟩ <;> rw [e]
  · split
    · rfl
    · rw [setQueue_winch, logFlushed_winch]

theorem evaluated_abortJobs (s : State) : Evaluated s (abortJobs s) := by
  refine ⟨quiet_abortJobs s, fun _ => abortJobs_st s, fun _ => abortJobs_st s, ?_, fun h => by rw [abortJobs_jobless s h], ?_⟩
  · rw [abortJobs_queue]; exact List.nil_suffix
  · intro _ _; rw [abortJobs_steering]

theorem winchEnter_winch (st : WinchState) (u : Nat) (s : State) :
    (winchEnter st u s).winch.st = st ∧ (winchEnter st u s).winch.queue = s.winch.queue ∧
      (winchEnter st u s).winch.running = s.winch.running := by
  unfold winchEnter
  dsimp only
  split <;> split <;> simp [judgeNeutralRun]

theorem winchEnter_steering (st : WinchState) (u : Nat) (s : State) : (winchEnter st u s).steering = s.steering := by
  unfold winchEnter
  dsimp only
  split <;> split <;> simp

theorem winchEnter_authority (st : WinchState) (u : Nat) (s : State) : (winchEnter st u s).authority = s.authority := by
  unfold winchEnter
  dsimp only
  split <;> split <;> simp

/-- A motion that a RELEASED target stops (R163). -/
theorem evaluated_stopMotion (s : State) (h : s.winch.st.moves = true) : Evaluated s (winchEnter .stopping 0 s) := by
  have w := winchEnter_winch .stopping 0 s
  refine ⟨quiet_winchEnter _ _ s, ?_, ?_, w.2.1.symm ▸ List.suffix_refl _, fun _ => winchEnter_authority _ _ s, ?_⟩
  · intro x; rw [h] at x; exact absurd x (by simp)
  · intro x; rw [w.1] at x; exact absurd x (by simp [WinchState.moves])
  · intro _ _; rw [winchEnter_steering]

theorem evaluated_setFreeze (d : Direction) (f : Option WinchFreeze) (s : State) : Evaluated s (setFreeze d f s) := by
  cases d <;>
    exact ⟨quiet_setFreeze _ f s, fun _ => rfl, fun _ => rfl, List.suffix_refl _, fun _ => rfl, fun _ _ => rfl⟩

theorem setFreeze_st (d : Direction) (f : Option WinchFreeze) (s : State) : (setFreeze d f s).winch.st = s.winch.st := by
  cases d <;> rfl

theorem motion_moves (d : Direction) : d.motion.moves = true := by cases d <;> rfl

theorem evaluated_winchTarget (d : Direction) (o n : TargetState) (s : State) : Evaluated s (winchTarget d o n s) := by
  unfold winchTarget
  cases n
  · exact evaluated_setFreeze _ _ s
  · exact evaluated_setFreeze _ _ s
  · dsimp only
    have stop : Evaluated s
        (if (setFreeze d none s).winch.st = d.motion then winchEnter .stopping 0 (setFreeze d none s)
         else setFreeze d none s) :=
      (evaluated_setFreeze d none s).trans
        (evaluated_ite (fun h => evaluated_stopMotion _ (by rw [h]; exact motion_moves d)) (fun _ => Evaluated.refl _))
    exact evaluated_ite (fun _ => stop.trans (evaluated_abortJobs _)) (fun _ => stop)

/-! ## The steering -/

theorem evaluated_modeChangeTarget (o n : TargetState) (s : State) : Evaluated s (modeChangeTarget o n s) := by
  refine ⟨quiet_modeChangeTarget o n s, ?_, ?_, ?_, ?_, ?_⟩
  case refine_5 =>
    intro _ hw
    have e : modeChangeTarget o n s = s := by
      unfold modeChangeTarget
      cases n <;> simp [hw]
    rw [e]
  all_goals
    have hw : (modeChangeTarget o n s).winch = s.winch := by
      unfold modeChangeTarget
      cases n <;> dsimp only <;> split <;> (try rfl) <;> split <;>
        simp [beginTransition, logDropped, setPhase] <;> (split <;> simp)
    have ha : (modeChangeTarget o n s).authority = s.authority := by
      unfold modeChangeTarget
      cases n <;> dsimp only <;> split <;> (try rfl) <;> split <;>
        simp [beginTransition, logDropped, setPhase] <;> (split <;> simp)
    simp [hw, ha]

/-! ## The Interlock Unit -/

theorem evaluated_ownerTakes (t : Target) (o n : TargetState) (s : State) : Evaluated s (ownerTakes t o n s) := by
  cases t
  · exact evaluated_of_quiet (quiet_driveFwdTarget o n s) rfl rfl rfl
  · exact evaluated_of_quiet (quiet_driveRevTarget o n s) rfl rfl rfl
  · exact evaluated_of_quiet (quiet_steerRearTarget o n s) rfl rfl rfl
  · exact evaluated_modeChangeTarget o n s
  · exact evaluated_winchTarget .haul o n s
  · exact evaluated_winchTarget .payout o n s
  · exact (evaluated_lightsTarget o n s).trans (evaluated_lightsRefresh _)

theorem evaluated_handTarget (old : PerTarget TargetState) (t : Target) (s : State) : Evaluated s (handTarget old t s) := by
  unfold handTarget
  exact evaluated_ite (fun _ => Evaluated.refl s) (fun _ => evaluated_ownerTakes t _ _ s)

theorem evaluated_logReleased (old : PerTarget TargetState) (t : Target) (s : State) : Evaluated s (logReleased old t s) := by
  unfold logReleased
  exact evaluated_ite (fun _ => evaluated_enterLog _ _ s) (fun _ => Evaluated.refl s)

theorem evaluated_foldl {α : Type} (f : State → α → State) (h : ∀ s a, Evaluated s (f s a)) (l : List α) (s : State) :
    Evaluated s (l.foldl f s) := by
  induction l generalizing s with
  | nil => exact Evaluated.refl s
  | cons a l ih => exact (h s a).trans (ih _)

theorem evaluated_settleTargets (old : PerTarget TargetState) (s : State) : Evaluated s (settleTargets old s) :=
  (evaluated_foldl _ (fun s t => evaluated_logReleased old t s) allTargets s).trans
    (evaluated_foldl _ (fun s t => evaluated_handTarget old t s) allTargets _)

theorem evaluated_evaluate (ch : Changes) (s : State) : Evaluated s (evaluate ch s) := by
  unfold evaluate
  refine Evaluated.trans ?_ (evaluated_settleTargets _ _)
  exact evaluated_of_quiet (quiet_of_update rfl rfl rfl rfl) rfl rfl rfl

theorem evaluated_cascade (n : Nat) (ch : Changes) (s : State) : Evaluated s (cascade n ch s) := by
  induction n generalizing ch s with
  | zero => exact Evaluated.refl s
  | succ n ih =>
    unfold cascade
    split
    · exact Evaluated.refl s
    · exact ((evaluated_evaluate _ s).trans (ih _ _)).trans (ih _ _)

/-- Everything one notification can do to the owners of the targets. -/
theorem evaluated_notify (ch : Changes) (s : State) : Evaluated s (notify ch s) :=
  (evaluated_cascade 6 ch s).trans (evaluated_lightsRefresh _)

theorem evaluated_notifyWinch (s : State) : Evaluated s (notifyWinch s) := evaluated_notify _ s

theorem evaluated_notifySteering (s : State) : Evaluated s (notifySteering s) := evaluated_notify _ s

theorem evaluated_reevaluate (k : Conds) (s : State) : Evaluated s (reevaluate k s) := by
  unfold reevaluate
  refine Evaluated.trans (Evaluated.trans (Evaluated.trans (Evaluated.trans ?_ (evaluated_settleTargets _ _))
    (evaluated_cascade 6 _ _)) (evaluated_cascade 6 _ _)) (evaluated_lightsRefresh _)
  exact evaluated_of_quiet (quiet_of_update rfl rfl rfl rfl) rfl rfl rfl

end Sys2Proof.Machine
end

