-- ==== Sys2Proof/Laws/Lights.lean ====
section
/-! SUPPORT. What darkness and a pattern step make of a light channel, once each. -/
namespace Sys2Proof.Machine

/-- A pattern step takes the ratio and sets the level; the run, the source, the freeze and the darkness stay (R189). -/
theorem takeStep_eq (s : State) (i : Fin 8) (c : ChannelState) :
    takeStep s i c =
      { c with
        ratio := classRatio s i
        level := if c.dark = true ∨ shedBy s i (classRatio s i) = true then 0
                 else outputLevel (shownLevel s c) (channelEntry s i).brightness (classRatio s i) } := by
  simp [takeStep]

/-- All that an event makes of a channel's darkness (R190). -/
theorem takeDarkness_cases (s : State) (i : Fin 8) (c : ChannelState) :
    (darkByRule s i c.source = true ∧ takeDarkness s i c = { c with dark := true, level := 0 }) ∨
      (darkByRule s i c.source = false ∧ c.dark = false ∧ takeDarkness s i c = c) ∨
      (darkByRule s i c.source = false ∧ c.dark = true ∧ shedBy s i c.ratio = true ∧
        takeDarkness s i c = { c with dark := false, level := 0 }) ∨
      (darkByRule s i c.source = false ∧ c.dark = true ∧ shedBy s i c.ratio = false ∧
        takeDarkness s i c = takeStep s i { c with dark := false }) := by
  unfold takeDarkness
  cases darkByRule s i c.source <;> cases c.dark <;> cases shedBy s i c.ratio <;> simp

/-- After an event a channel is dark by the first five rows exactly while one of them applies. -/
theorem takeDarkness_dark (s : State) (i : Fin 8) (c : ChannelState) :
    (takeDarkness s i c).dark = darkByRule s i c.source := by
  rcases takeDarkness_cases s i c with ⟨h, e⟩ | ⟨h, d, e⟩ | ⟨h, _, _, e⟩ | ⟨h, _, _, e⟩ <;> rw [e, h]
  · exact d
  · simp [takeStep]

end Sys2Proof.Machine
end

