-- ==== Sys2Proof/Laws/Requests.lean ====
section
/-! SUPPORT. What the shared operations of requests and of the Authority Table do, once each: an event that occurs or not, a
taken request, a claim set or ended, a recomputation of the commands, a change of level, a load of max_payout, a judgement of
the neutral run and the trip run, the end of a transition and of a commit. -/
namespace Sys2Proof.Machine

/-! ## Events and requests -/

theorem event_occurs {b : Bool} (h : b = true) (f : State → State) (s : State) : event b f s = .next (f s) := by
  subst h; rfl

theorem event_is_none {b : Bool} (h : b = false) (f : State → State) (s : State) : event b f s = .next s := by
  subst h; rfl

/-- In RETAIN chip select is ignored (R49, R204). -/
theorem takeRequest_unpowered (code : Byte) (wakes : Bool) (lengths : List Nat) (act : State → Reply) (r : Request)
    {s : State} (h : s.powered = false) : takeRequest code wakes lengths act r s = s := by
  simp [takeRequest, h]

/-- A request of a length it does not accept is INVALID (R205). -/
theorem takeRequest_refused (code : Byte) (wakes : Bool) (lengths : List Nat) (act : State → Reply) (r : Request)
    {s : State} (h : s.powered = true) (hl : r.params.length ∉ lengths) :
    takeRequest code wakes lengths act r s = answered code .invalid [] r s (taken wakes s) := by
  have : lengths.contains r.params.length = false := by simpa using hl
  simp only [takeRequest, h, this, judgeRequest]
  rfl

/-- A request of an accepted length is answered by its owner (R204, R205). -/
theorem takeRequest_answer (code : Byte) (wakes : Bool) (lengths : List Nat) (act : State → Reply) (r : Request)
    {s u : State} {st : Status} {data : List Byte} (h : s.powered = true) (hl : r.params.length ∈ lengths)
    (ha : act (taken wakes s) = .answer st data u) :
    takeRequest code wakes lengths act r s =
      setShifted (shiftOut (clockedBytes r) s.assist.slot) (respond code st data u) := by
  have : lengths.contains r.params.length = true := by simpa using hl
  simp only [takeRequest, h, this, judgeRequest, ha]
  rfl

theorem setShifted_respond (code : Byte) (st : Status) (data : List Byte) (r : Request) (s u : State) :
    setShifted (shiftOut (clockedBytes r) s.assist.slot) (respond code st data u) = answered code st data r s u := rfl

/-! ## Claims -/

/-- A claim set: the entry holds it, its lockout stays. -/
theorem setClaim_entry (f : Fn) (c : Claim) (s : State) :
    ((setClaim f c s).authority.entries.get f).claim = some c ∧
      ((setClaim f c s).authority.entries.get f).lockout = (s.authority.entries.get f).lockout := by
  cases f <;> exact ⟨rfl, rfl⟩

theorem endClaim_none (reason : ClaimEnd) (f : Fn) (s : State) (h : (s.authority.entries.get f).claim = none) :
    endClaim reason f s = s := by
  simp [endClaim, h]

/-- The end of a claim: the entry is under DRIVER with its lockout as it was, and CLAIM_END is logged (R105). -/
theorem endClaim_some (reason : ClaimEnd) (f : Fn) (c : Claim) (s : State) (h : (s.authority.entries.get f).claim = some c) :
    endClaim reason f s =
      enterLog .claimEnd [fnCode f, c.kind.code, reason.code]
        { s with
          authority := { s.authority with
            entries := s.authority.entries.set f { s.authority.entries.get f with claim := none } } } := by
  simp [endClaim, h]

/-! ## Recomputation of the commands (R92) -/

theorem judgeTurns_of_still {s t : State} (h : t.still = s.still) : (judgeTurns t).still = (judgeTurns s).still := by
  have e : ∀ x : State, (judgeTurns x).still = judgeTurns x.still := fun _ => rfl
  rw [e, e, h]

/-- A recomputation forms the commands and judges the turn signals; the rest of what it does is what evaluations can move. -/
theorem recompute_still (s : State) : (recompute s).still = (judgeTurns (setCommands s)).still := by
  unfold recompute
  dsimp only
  rw [(quiet_notifySteering _).1]
  apply judgeTurns_of_still
  rw [(quiet_judgeNeutralRun _).1, (quiet_handMode _ _).1, (quiet_notify _ _).1]

/-! ## A change of level, a load of max_payout, a removal -/

theorem driveNeutral_of_still {s t : State} (h : t.still = s.still) : (driveNeutral t).still = (driveNeutral s).still := by
  have hd := congrArg State.drive h
  have hc := still_cfg h
  simp only [State.still] at hd
  simp only [State.still, driveNeutral, State.cfg] at *
  simp_all

/-- Beside the evaluations it brings about, a change of the effective level sets the drive neutral at CUTOFF and moves nothing else
(R20, R150, R162). -/
theorem takeLevel_still (s : State) :
    (takeLevel s).still = (if s.protection.effective = .cutoff then driveNeutral s else s).still := by
  by_cases h : s.protection.effective = .cutoff
  · simp only [takeLevel, h, ite_true]
    rw [(quiet_lightsRefresh _).1]
    exact driveNeutral_of_still
      (((quiet_notifyWinch _).1.trans (quiet_winchCutoff _).1).trans (quiet_notify _ s).1)
  · simp only [takeLevel, h, ite_false]
    exact (quiet_notify _ s).1

/-- A start's max_payout covers the count it keeps (R164), and no other setting is touched. -/
theorem coverCount_covers (n : Nat) (w : Settings) :
    n ≤ (coverCount n w).winch.maxPayout ∧ w.winch.maxPayout ≤ (coverCount n w).winch.maxPayout ∧
      { coverCount n w with winch := w.winch } = w :=
  ⟨Nat.le_max_right _ _, Nat.le_max_left _ _, rfl⟩

/-! ## Judgements and freezes of the winch, the trip run, the end of a commit -/

/-- A judgement of the stall-clear neutral run leaves what R168 gives, and touches nothing else. -/
theorem judgeNeutralRun_judged (s : State) :
    neutralRunJudged s (judgeNeutralRun s) ∧
      { judgeNeutralRun s with winch := { (judgeNeutralRun s).winch with neutralRun := s.winch.neutralRun } } = s := by
  refine ⟨?_, rfl⟩
  simp only [neutralRunJudged, judgeNeutralRun, State.winchDriver, within, decide_eq_true_eq, Option.isNone_iff_eq_none]
  split <;> cases s.winch.neutralRun <;> rfl

/-- The targets never turn a request about; all they can change is its duty and whether it may start a motion (R163). -/
@[simp] theorem applyTargets_dir (s : State) (r : WinchRequest) : (applyTargets s r).dir = r.dir := by
  unfold applyTargets; (repeat' split) <;> rfl

/-- A HELD target with a frozen duty puts that duty in place of the request's (R163). -/
theorem applyTargets_held {s : State} {r : WinchRequest} {f : Nat} (ht : targetOfDir s r.dir = .held)
    (hf : freezeOfDir s r.dir = some (.duty f)) : applyTargets s r = { r with duty := f } := by
  simp [applyTargets, ht, hf]

/-- A set that finds no trip moves the trip run alone (R11). -/
theorem tripDetector_quiet {iMeas : Nat} {s : State}
    (h : ∀ began, s.monitor.tripRun = some began → s.cfg.pack.tripMa ≤ iMeas → elapsed s.now began < s.cfg.pack.tripMs) :
    tripDetector iMeas s =
      { s with monitor := { s.monitor with
          tripRun := if iMeas < s.cfg.pack.tripMa then none else some (s.monitor.tripRun.getD s.now) } } := by
  unfold tripDetector
  split
  · rfl
  · cases hr : s.monitor.tripRun with
    | none => rfl
    | some began =>
      have := h began hr (by omega)
      simp only [Option.getD_some, if_neg (Nat.not_le.mpr this)]
      rw [← hr]

/-- A transition that completes leaves TRANSITION with its timer stopped, and STEER_SETTLED as the outputs are (R134, R139); the rest
of the unit stands. -/
theorem completeTransition_steering {s : State} (h : s.steering.phase = .transition) :
    (completeTransition s).steering =
      { s.steering with phase := phaseAtRest s, timer := none, settled := outputsSettled s } := by
  have hp : phaseAtRest s ≠ .transition := by unfold phaseAtRest; split <;> simp
  simp [completeTransition, setPhase, h, hp, judgeSettled, restartIdle, outputsSettled, distanceF, distanceR]
  rw [bne_iff_ne.mpr hp, Bool.and_true]
  rfl

/-- The end of a commit's write, where an attach waited for it, makes the start from the store that the write left (R210). -/
theorem commitEnded_attach {image : Settings} {ok : Bool} {s : State} {rail backup : Nat}
    (h : s.supply.attachWaiting = some (rail, backup)) :
    commitEnded image ok s =
      attach backup
        (enterLog .commitEnd [if ok then 0 else 1]
          { s with store := { s.store with
              image := image, checkOk := ok, commit := if ok then .done else .failed, writing := none } }) := by
  have hw (x : State) (hx : x.supply = s.supply) :
      (enterLog .commitEnd [if ok then 0 else 1] x).supply.attachWaiting = some (rail, backup) := by
    rw [enterLog_supply, hx, h]
  simp only [commitEnded, hw]

end Sys2Proof.Machine
end

