-- ==== Sys2Proof/Laws/Settings.lean ====
section
/-! SUPPORT. Setting values as they are sent: the bytes of a number and the number of the bytes, and what a write of a setting of each
form comes to. -/
namespace Sys2Proof.Machine

theorem clampI_eq_nearest (lo hi n : Int) : clampI lo hi n = nearest lo hi n := rfl

theorem clampI_stays {lo hi n : Int} (h : lo ≤ n) (h' : n ≤ hi) : clampI lo hi n = n := by
  unfold clampI; (repeat' split) <;> omega

/-- A clamped number stays within its range. -/
theorem clampI_within {lo hi : Int} (h : lo ≤ hi) (n : Int) : lo ≤ clampI lo hi n ∧ clampI lo hi n ≤ hi := by
  unfold clampI; (repeat' split) <;> omega

/-! ## The bytes of a number (R212) -/

theorem byteOf_toNat (x : Byte) : byteOf x.toNat = x := by simp [byteOf]

/-- Two bytes, read as a number and sent again. -/
theorem le16_num16 (lo hi : Byte) : le16 (num16 lo hi) = [lo, hi] := by
  have h1 := lo.isLt
  have h2 := hi.isLt
  have e1 : byteOf (num16 lo hi) = lo := by
    apply BitVec.eq_of_toNat_eq; simp only [byteOf, num16, BitVec.toNat_ofNat]; omega
  have e2 : byteOf (num16 lo hi / 256) = hi := by
    apply BitVec.eq_of_toNat_eq; simp only [byteOf, num16, BitVec.toNat_ofNat]; omega
  simp only [le16, e1, e2]

theorem leSigned16_int16 (lo hi : Byte) : leSigned16 (int16 lo hi) = [lo, hi] := by
  have h1 := lo.isLt
  have h2 := hi.isLt
  have hn : num16 lo hi < 65536 := by simp only [num16]; omega
  rw [leSigned16, int16, BitVec.ofInt_toInt, BitVec.toNat_ofNat, Nat.mod_eq_of_lt hn, le16_num16]

/-- A number sent again is the bytes it was read from. -/
theorem encodeNum_decodeNum {w : Width} {b : List Byte} {n : Int} (h : decodeNum w b = some n) : encodeNum w n = b := by
  unfold decodeNum at h
  split at h <;> first | contradiction | (obtain rfl := Option.some.inj h)
  · simp [encodeNum, byteOf_toNat]
  · simp [encodeNum, BitVec.ofInt_toInt]
  · simp only [encodeNum, Int.toNat_natCast, le16_num16]
  · simp only [encodeNum, leSigned16_int16]

/-! ## Writes (R208) -/

theorem number_write (lo hi : Int) (get : Settings → Int) (put : Int → Settings → Settings) (b : List Byte) (w : Settings) :
    (decodeNum (widthOf lo hi) b = none → (number lo hi get put).write b w = .invalid) ∧
      ∀ n, decodeNum (widthOf lo hi) b = some n →
        (number lo hi get put).write b w = .stored (put (nearest lo hi n) w) (nearest lo hi n != n) :=
  ⟨fun h => by simp [number, h], fun n h => by simp [number, h, clampI_eq_nearest]⟩

theorem related_write (lo hi : Int) (get : Settings → Int) (put : Int → Settings → Settings) (ok : Settings → Bool)
    (b : List Byte) (w : Settings) :
    (decodeNum (widthOf lo hi) b = none → (related lo hi get put ok).write b w = .invalid) ∧
      ∀ n, decodeNum (widthOf lo hi) b = some n →
        (related lo hi get put ok).write b w =
          if ok (put (nearest lo hi n) w) = true then .stored (put (nearest lo hi n) w) (nearest lo hi n != n) else .invalid :=
  ⟨fun h => by simp [related, h], fun n h => by simp only [related, h]; rfl⟩

/-- A load that raises max_payout to the line count leaves the thresholds and endpoints alone. -/
theorem Settings.ordered_coverCount (lineCount : Nat) {w : Settings} (h : w.ordered) : (coverCount lineCount w).ordered := h

theorem Settings.ordered_factory : factorySettings.ordered := by
  unfold Settings.ordered; decide

end Sys2Proof.Machine
end

