-- ==== Sys2Proof/Laws/Tables.lean ====
section
/-! SUPPORT. Reading the small tables after writing them: the entry written is the one written, every other is as it was. -/
namespace Sys2Proof.Machine

@[simp] theorem PerFn.get_set_self {α : Type} (t : PerFn α) (f : Fn) (a : α) : (t.set f a).get f = a := by
  cases f <;> rfl

theorem PerFn.get_set_other {α : Type} (t : PerFn α) {f g : Fn} (a : α) (h : g ≠ f) : (t.set f a).get g = t.get g := by
  cases f <;> cases g <;> first | rfl | exact absurd rfl h

@[simp] theorem Eight.get_tabulate {α : Type} (f : Fin 8 → α) (i : Fin 8) : (Eight.tabulate f).get i = f i := by
  match i with
  | 0 | 1 | 2 | 3 | 4 | 5 | 6 | 7 => rfl

@[simp] theorem Eight.get_map {α β : Type} (f : α → β) (t : Eight α) (i : Fin 8) : (t.map f).get i = f (t.get i) := by
  match i with
  | 0 | 1 | 2 | 3 | 4 | 5 | 6 | 7 => rfl

@[simp] theorem Eight.get_set_self {α : Type} (t : Eight α) (i : Fin 8) (a : α) : (t.set i a).get i = a := by
  match i with
  | 0 | 1 | 2 | 3 | 4 | 5 | 6 | 7 => rfl

theorem Eight.get_set_other {α : Type} (t : Eight α) {i j : Fin 8} (a : α) (h : j ≠ i) : (t.set i a).get j = t.get j := by
  match i, j with
  | 0, 0 | 1, 1 | 2, 2 | 3, 3 | 4, 4 | 5, 5 | 6, 6 | 7, 7 => exact absurd rfl h
  | 0, 1 | 0, 2 | 0, 3 | 0, 4 | 0, 5 | 0, 6 | 0, 7 | 1, 0 | 1, 2 | 1, 3 | 1, 4 | 1, 5 | 1, 6 | 1, 7 | 2, 0 | 2, 1
  | 2, 3 | 2, 4 | 2, 5 | 2, 6 | 2, 7 | 3, 0 | 3, 1 | 3, 2 | 3, 4 | 3, 5 | 3, 6 | 3, 7 | 4, 0 | 4, 1 | 4, 2 | 4, 3
  | 4, 5 | 4, 6 | 4, 7 | 5, 0 | 5, 1 | 5, 2 | 5, 3 | 5, 4 | 5, 6 | 5, 7 | 6, 0 | 6, 1 | 6, 2 | 6, 3 | 6, 4 | 6, 5
  | 6, 7 | 7, 0 | 7, 1 | 7, 2 | 7, 3 | 7, 4 | 7, 5 | 7, 6 => rfl

@[simp] theorem Four.get_map {α β : Type} (f : α → β) (t : Four α) (i : Fin 4) : (t.map f).get i = f (t.get i) := by
  match i with
  | 0 | 1 | 2 | 3 => rfl

@[simp] theorem Four.get_set_self {α : Type} (t : Four α) (i : Fin 4) (a : α) : (t.set i a).get i = a := by
  match i with
  | 0 | 1 | 2 | 3 => rfl

@[simp] theorem PerTarget.get_tabulate {α : Type} (f : Target → α) (t : Target) : (PerTarget.tabulate f).get t = f t := by
  cases t <;> rfl

@[simp] theorem Conds.get_set_self (k : Conds) (c : Cond) (v : Bool) : (k.set c v).get c = v := by cases c <;> rfl

theorem Conds.get_set_other (k : Conds) {c d : Cond} (v : Bool) (h : d ≠ c) : (k.set c v).get d = k.get d := by
  cases c <;> cases d <;> first | rfl | exact absurd rfl h

end Sys2Proof.Machine
end

