-- ==== Sys2Proof/Tests/Slice0.lean ====
section
/-! SUPPORT. The tests: the well-formedness smoke tests, small steps whose results are worked out from the manual, and for every
statement with hypotheses a witness that meets them, clause by clause. -/
namespace Sys2Proof.Tests

-- One theorem at a time: each kernel evaluation otherwise waits on a thread of its own.
set_option Elab.async false
open Sys2Proof Sys2Proof.Machine

/-! ## Small states -/

/-- The state a command leaves. -/
def after (c : Instr) (s : State) : State :=
  match exec c s with
  | .next t => t
  | .fault f => nomatch f
  | .refused _ => s

def request (params : List Byte) : Request := { params := params, extra := [] }

/-- The slot holds OK for this code. -/
def answeredOk (code : Byte) (s : State) : Bool := s.assist.slot == responseBytes .ok code []

/-- A pack of three cells. -/
def pack3 : Identity :=
  { cells := 3, disconnect := some 12000, energy := 0, r := 30, level := .normal, limpUsed := false, limpPeriod := none,
    trips := [], tripLimp := none }

/-- 1,000 ms after reset, so that every clock is due; still in QUALIFY. -/
def late : State := { State.reset with retention := { State.reset.retention with counter := 1000 } }

/-- ACTIVE, the servo rail good, the link UP, a pack of three cells. -/
def active : State :=
  { late with
    retention := { late.retention with identity := some pack3 }
    supply := { late.supply with state := .active, rail := .good }
    radio := { late.radio with link := .up }
    interlock := { late.interlock with conds := { late.interlock.conds with linkUp := true } } }

def parked : State := { active with supply := { active.supply with state := .park, rail := .off } }

def unpowered : State := { late with supply := { late.supply with state := .retain } }

def withWinch (st : WinchState) (s : State) : State := { s with winch := { s.winch with st := st } }

def withLevel (l : Level) (s : State) : State := { s with protection := { s.protection with effective := l } }

def withLink (l : LinkState) (s : State) : State := { s with radio := { s.radio with link := l } }

/-- A claim on WINCH with this expiry. -/
def winchClaim (expiry : Option Timer) : Claim :=
  { kind := .full, value := 0, reference := 0, refPos := none, refreshed := 0, expiry := expiry }

def claimed (f : Fn) (c : Claim) (s : State) : State := setClaim f c s

def locked (f : Fn) (s : State) : State := setLockout f (some { began := 0, ends := some (timerAt 0 10), run := some (timerAt 0 10) }) s

def haulJob : Job := { kind := .haulBy, amount := some 2, duty := 500, timeout := 100, tag := 9 }

/-- Jobs held, under a suspended claim. -/
def queued (jobs : List Job) (s : State) : State :=
  let s1 := claimed .winch (winchClaim none) s
  { s1 with winch := { s1.winch with queue := jobs } }

def jobRun : JobRun := { moved := 1, timeout := timerAt 0 100, freeFor := some (timerAt 0 100), tension := none }

/-- A job running for its motion. -/
def running (j : Job) (rest : List Job) (s : State) : State :=
  let s1 := queued (j :: rest) s
  { s1 with winch := { s1.winch with running := some jobRun, st := j.kind.motion } }

def writing (s : State) : State := { s with store := { s.store with writing := some (s.cfg, timerAt 0 60), commit := .writing } }

def throttleAt (v : Int) (s : State) : State :=
  { s with authority := { s.authority with commands := { s.authority.commands with throttle := v } } }

def winchAt (v : Int) (s : State) : State :=
  { s with authority := { s.authority with commands := { s.authority.commands with winch := v } } }

def setTarget (t : Target) (st : TargetState) (s : State) : State :=
  let targets := PerTarget.tabulate (fun x => if x = t then st else s.interlock.targets.get x)
  { s with interlock := { s.interlock with targets := targets } }

def transition (waiting : Option Mode) (s : State) : State :=
  { s with steering := { s.steering with
      phase := .transition, waiting := waiting, timer := some (timerAt 0 500), settled := false } }

/-- A frame with every channel at 0 but these low bytes of the field, and this flag byte. -/
def frameBytes (flags : Byte) (field : List Byte) : List Byte :=
  let body := flags :: 80 :: (field ++ List.replicate (15 - field.length) 0)
  0xA7 :: (body ++ [xorAll body])

/-! ## Well-formedness: each check refuses an ill-formed command -/

theorem test_wf_length : (Instr.nop (request (List.replicate 256 0))).wf = false := by decide +kernel
theorem test_wf_catalogue_code : (Instr.unknownRequest 0x15 (request [])).wf = false := by decide +kernel
theorem test_wf_unknown_code : (Instr.unknownRequest 0x16 (request [])).wf = true := by decide +kernel
theorem test_wf_complete : (Instr.incompleteTransaction [0x01, 0x00]).wf = false := by decide +kernel
theorem test_wf_incomplete : (Instr.incompleteTransaction [0x07, 0x02, 0x00]).wf = true := by decide +kernel
theorem test_wf_neutral_run : (Instr.lockoutNeutralRunExpiry .lights).wf = false := by decide +kernel
theorem test_wf_switch_lockout : (Instr.switchLockoutExpiry .steer).wf = false := by decide +kernel

/-! ## Small steps, their results worked out from the rules named -/

/-- R204, R205: OK, the code back, no data; and the activity window of 1,000 ms (R206). -/
theorem test_nop :
    (after (.nop (request [])) late).assist =
      { slot := [0, 0x01, 0], shifted := [0x00, 0x00], inProgress := [], window := some (timerAt 1000 1000) } := by decide +kernel

/-- 12.4.3: the response is longer than the transaction that follows it clocks. -/
theorem test_nop_shifts_out_the_slot :
    (after (.nop { params := [], extra := [0, 0, 0, 0] }) late).assist.shifted = [0x00, 0x00, 0x01, 0x00, 0, 0] := by decide +kernel

/-- R207: QUALIFY 1, NORMAL 0, NO_LINK 0, quality 0, COLD alone, commit IDLE, not ready, ASSIST_ACTIVE, one unread record. -/
theorem test_read_status :
    (after (.readStatus (request [])) late).assist.slot = [0, 0x02, 11, 1, 0, 0, 0, 1, 0, 0, 0, 0, 1, 1] := by decide +kernel

/-- R25: 37 data bytes; before the first set V_meas and I_meas are 0. -/
theorem test_read_pack : (after (.readPack (request [])) late).assist.slot.take 6 = [0, 0x03, 37, 0, 0, 0] := by decide +kernel

/-- R41, R46: the initial record has time 0 and supply state QUALIFY. -/
theorem test_read_allotment :
    ((after (.readAllotment (request [])) late).assist.slot.drop 3).take 6 = [0, 0, 0, 0, 1, 0] := by decide +kernel

/-- R107: the same five commands are read whether or not a claim merges. -/
theorem test_read_commands : ((after (.readCommands (request [])) late).assist.slot.take 2) = [0, 0x05] := by decide +kernel

/-- R91, R94: FULL THROTTLE at 1,000 (E8 03) replaces the driver value. -/
theorem test_claim : (after (.claim (request [0, 0, 0xE8, 3])) active).authority.commands.throttle = 1000 := by decide +kernel

/-- R94: THROTTLE with the link down is REFUSED (5). -/
theorem test_claim_refused : (after (.claim (request [0, 0, 0, 0])) late).assist.slot = [5, 0x06, 0] := by decide +kernel

/-- R99: a claim on STEER is released, CLAIM_END carries function 1, FULL 0, RELEASED 1. -/
theorem test_release :
    ((after (.release (request [1])) (claimed .steer (winchClaim none) active)).retention.log.ring.getLast?).map
      (fun r => (r.kind, r.data)) = some (.claimEnd, [1, 0, 1]) := by decide +kernel

/-- R99: NOT_HELD (7) under DRIVER. -/
theorem test_release_not_held : (after (.release (request [1])) active).assist.slot = [7, 0x07, 0] := by decide +kernel

/-- R170: duty 50 is limited to 100, OK_CLAMPED (1). -/
theorem test_winch_job :
    (after (.winchJob (request [0, 50, 0, 100, 0, 9, 2, 0])) active).winch.queue =
      [{ kind := .haulBy, amount := some 2, duty := 100, timeout := 100, tag := 9 }] := by decide +kernel

/-- R170: a fifth job is QUEUE_FULL (8). -/
theorem test_winch_job_full :
    (after (.winchJob (request [0, 50, 0, 100, 0, 9, 2, 0])) (queued [haulJob, haulJob, haulJob, haulJob] active)).assist.slot =
      [8, 0x08, 0] := by decide +kernel

/-- R175: EMPTY (11) with no job held. -/
theorem test_winch_cancel : (after (.winchCancel (request [])) active).assist.slot = [11, 0x09, 0] := by decide +kernel

/-- R175: the running job is ABORTED and the winch stops. -/
theorem test_winch_cancel_running :
    (after (.winchCancel (request [])) (running haulJob [] active)).winch.st = .stopping := by decide +kernel

/-- R168. -/
theorem test_winch_clear : (after (.winchClear (request [])) (withWinch .stalled active)).winch.st = .idle := by decide +kernel

/-- R187: SET is 0; a value that is neither SET nor CLEAR is INVALID (3). -/
theorem test_hazard :
    (after (.hazard (request [0])) active).lights.hazardAssist = true ∧
      (after (.hazard (request [2])) active).assist.slot = [3, 0x0B, 0] := by decide +kernel

/-- R195. -/
theorem test_ack_locate :
    (after (.ackLocate (request [])) { active with lights := { active.lights with locate := true } }).lights.locate = false ∧
      (after (.ackLocate (request [])) active).assist.slot = [5, 0x0C, 0] := by decide +kernel

/-- R21: from CUTOFF, 60 s by the factory setting. -/
theorem test_limp_home :
    (after (.limpHome (request []))
        { active with retention := { active.retention with identity := some { pack3 with level := .cutoff } } }).retention.identity =
      some { pack3 with limpUsed := true, level := .limp, limpPeriod := some (timerAt 1000 60000) } := by decide +kernel

/-- R64: REFUSED in QUALIFY, entered from ACTIVE. -/
theorem test_park :
    (after (.park (request [])) late).assist.slot = [5, 0x0E, 0] ∧
      (after (.park (request [])) active).supply.state = .park := by decide +kernel

/-- 12.4.4: the START record of time 0, kind 1, block 3, INFO 0, one field 0, then nothing unread. -/
theorem test_read_log :
    (after (.readLog (request [])) late).assist.slot =
      [0, 0x0F, 16, 0, 0, 0, 0, 1, 3, 0, 1, 0, 0, 0, 0, 0, 0, 0, 0] := by decide +kernel

/-- R208: trip_ma is 0x0103 by its place in section 1.11, counted from 0, 45,000 mA. -/
theorem test_read_setting : (after (.readSetting (request [0x03, 0x01])) late).assist.slot = [0, 0x10, 2, 0xC8, 0xAF] := by decide +kernel

/-- R208: reserve_pct 101, above its range, is stored at its limit, OK_CLAMPED. -/
theorem test_write_setting :
    (after (.writeSetting (request [0x02, 0x01, 101])) late).assist.slot = [1, 0x11, 0] := by decide +kernel

/-- R209: LOW_RESERVE (10) before the backup cell has been measured ready. -/
theorem test_commit : (after (.commit (request [])) late).assist.slot = [10, 0x12, 0] := by decide +kernel

/-- R211. -/
theorem test_restore_defaults :
    (after (.restoreDefaults (request []))
        { late with store := { late.store with working := { factorySettings with alertMask := ⟨true, true, true⟩ } } }).cfg =
      factorySettings := by decide +kernel

/-- R54. -/
theorem test_clear_causes : (after (.clearCauses (request [])) late).retention.flags = ⟨false, false, false⟩ := by decide +kernel

/-- R53, R204: QUALIFY again, and the START response with cause 2. -/
theorem test_restart :
    (after (.restart (request [])) active).supply.state = .qualify ∧
      (after (.restart (request [])) active).assist.slot = [0, 0, 1, 2] := by decide +kernel

/-- R9: 10,000 mA over the 2 ms period. -/
theorem test_sample_set :
    (after (.sampleSet 12000 10000 0 0) active).retention.identity.map (fun i => i.energy) = some 20000 := by decide +kernel

/-- R57: 2,499 mV is below the band. -/
theorem test_sample_set_low :
    ((after (.sampleSet 2499 0 0 0) late).retention.log.ring.getLast?).map (fun r => (r.kind, r.data)) =
      some (.qualifyFail, [0, 2499]) := by decide +kernel

def tripping : State := { active with monitor := { active.monitor with tripHold := some (timerAt 0 1000) } }

/-- R12. -/
theorem test_trip_hold : (after .tripHoldExpiry tripping).tripActive = false := by decide +kernel

def limping : State :=
  { active with
    retention := { active.retention with identity := some { pack3 with
      tripLimp := some (timerAt 0 1000), limpPeriod := some (timerAt 0 1000), level := .limp, limpUsed := true } }
    protection := { active.protection with effective := .limp } }

/-- R13: the voltage level still holds LIMP. -/
theorem test_trip_limp : (after .tripLimpExpiry limping).protection.effective = .limp := by decide +kernel

/-- R22: CUTOFF again. -/
theorem test_limp_home_period : (after .limpHomePeriodExpiry limping).protection.effective = .cutoff := by decide +kernel

/-- R50: at 2,300 mV with the contents kept, a pack start; at 2,299 mV nothing. -/
theorem test_pack_attach :
    (after (.packAttach 2300 2000) unpowered).supply.state = .qualify ∧
      (after (.packAttach 2299 2000) unpowered).supply.state = .retain := by decide +kernel

/-- R51: a cold start of a blank part is what reset is. -/
theorem test_cold_start_is_reset :
    let t := after (.packAttach 5000 0) { unpowered with retention := { unpowered.retention with valid := false } }
    t.retention = State.reset.retention ∧ t.lights = State.reset.lights ∧ t.steering = State.reset.steering := by decide +kernel

/-- R61; with the cell at the retention minimum the contents are kept. -/
theorem test_pack_removed :
    (after (.packRemoved 2199 2000) active).supply.state = .retain ∧
      (after (.packRemoved 2199 2000) active).retention.valid = true := by decide +kernel
/-- R50, R56: a cell below the minimum keeps nothing. -/
theorem test_pack_removed_low_cell : (after (.packRemoved 2199 1999) active).retention.valid = false := by decide +kernel

/-- R56: lost below 2,000 mV. -/
theorem test_retention_loss :
    (after (.retentionLoss 1999) unpowered).retention.valid = false ∧
      (after (.retentionLoss 2000) unpowered).retention.valid = true := by decide +kernel

/-- R56. -/
theorem test_backup_cell_fitted : (after .backupCellFitted unpowered).retention.valid = false := by decide +kernel

/-- R62. -/
theorem test_backup_measurement :
    (after (.backupMeasurement 2600) late).supply.backupReady = true ∧
      (after (.backupMeasurement 2599) late).supply.backupReady = false := by decide +kernel

/-- R63. -/
theorem test_srv_pg :
    (after (.srvPgChange false) { active with pins := { active.pins with srvPg := true } }).supply.rail = .fault := by decide +kernel

def waiting : State := { active with supply := { active.supply with rail := .wait, railWait := some (timerAt 0 50) } }

/-- R63. -/
theorem test_rail_wait : (after .railWaitExpiry waiting).supply.rail = .fault := by decide +kernel

def idling : State := { active with supply := { active.supply with idle := some (timerAt 0 1000) } }

/-- R65. -/
theorem test_park_idle :
    (after .parkIdleExpiry idling).supply.state = .park ∧
      (after .parkIdleExpiry (withWinch .stopping idling)).supply.state = .active := by decide +kernel

/-- R71: a frame of 19 bytes with its check byte is valid, one with a framing error is not. -/
theorem test_radio_frame :
    (after (.radioFrame (frameBytes 0 []) .clean) late).radio.link = .rearm ∧
      (after (.radioFrame (frameBytes 0 []) .framingError) late).radio.link = .noLink := by decide +kernel

/-- 12.4.1: channel 2 is bits 12 to 23 of the field: bytes 00 80 3E carry 0x3E8, 1,000. -/
theorem test_radio_frame_throttle :
    (after (.radioFrame (frameBytes 0 [0x00, 0x80, 0x3E]) .clean) active).radio.driver.throttle = 1000 := by decide +kernel

def held : State := { active with radio := { active.radio with hold := some (timerAt 0 60), failsafe := some (timerAt 0 250) } }

/-- R74. -/
theorem test_hold_timer : (after .holdTimerExpiry held).radio.link = .holding := by decide +kernel
/-- R74. -/
theorem test_failsafe_timer : (after .failsafeTimerExpiry held).radio.link = .lost := by decide +kernel

def slotOpen : State := { active with radio := { active.radio with slot := some 5 } }

/-- 12.4.2: the first reply is PACK: kind 0 in bits 4 to 7, count 5. -/
theorem test_telemetry_reply :
    (after (.telemetryReply true) slotOpen).radio.reply = [0xA8, 0x05, 0, 0, 0, 0, 0, 0, 0x05] := by decide +kernel

def expiring : State := claimed .steer { winchClaim (some (timerAt 0 300)) with value := 500 } active

/-- R97. -/
theorem test_claim_expiry : (after (.claimExpiry .steer) expiring).authority.entries.steer.claim = none := by decide +kernel
/-- R103. -/
theorem test_lockout_neutral_run :
    (after (.lockoutNeutralRunExpiry .steer) (locked .steer active)).authority.entries.steer.lockout = none := by decide +kernel
/-- R103. -/
theorem test_switch_lockout :
    (after (.switchLockoutExpiry .lights) (locked .lights active)).authority.entries.lights.lockout = none := by decide +kernel

def steered : State :=
  { active with authority := { active.authority with commands := { active.authority.commands with steer := 1000 } } }

/-- R129, R130, R132: FRONT, target 1,900, one step of 40 µs from 1,500. -/
theorem test_steer_frame :
    (after .steerFrame steered).steering.targetF = 1900 ∧ (after .steerFrame steered).steering.pulse = some (1540, 1500) := by
  decide +kernel

/-- R139. -/
theorem test_transition_timer : (after .transitionTimerExpiry (transition none active)).steering.phase = .steady := by decide +kernel

/-- R147, R149: full throttle with a ratio of 256 and no ramp is 2,000 µs, and that is the pulse. -/
theorem test_esc_frame : (after .escFrame (throttleAt 1000 active)).escPin = some 2000 := by decide +kernel
/-- R144: no pulse before the first frame. -/
theorem test_esc_no_frame : active.escPin = none := by decide +kernel

/-- R158: a manual request above the band hauls, with its magnitude as the duty. -/
theorem test_winch_frame :
    (after .winchFrame (winchAt 41 active)).winch.st = .hauling ∧
      (after .winchFrame (winchAt 40 active)).winch.st = .idle := by decide +kernel

def stopping : State := withWinch .stopping { active with winch := { active.winch with dwell := some (timerAt 0 100) } }

/-- R160. -/
theorem test_stopping_dwell : (after .stoppingDwellExpiry stopping).winch.st = .idle := by decide +kernel

def paidOut (n : Nat) (s : State) : State := { s with retention := { s.retention with lineCount := n } }

/-- R164, R165: at 8,000 pulses the payout limit stops the winch. -/
theorem test_enc_pulse :
    (after .encPulse (paidOut 7999 (withWinch .payingOut active))).retention.lineCount = 8000 ∧
      (after .encPulse (paidOut 7999 (withWinch .payingOut active))).winch.st = .stopping := by decide +kernel

/-- R164: the count stays at 0. -/
theorem test_enc_pulse_haul : (after .encPulse (paidOut 0 (withWinch .hauling active))).retention.lineCount = 0 := by decide +kernel

def hooked : State := paidOut 5 { active with pins := { active.pins with hook := true } }

/-- R166. -/
theorem test_hook_debounce :
    (after .hookDebounceExpiry hooked).winch.stowed = true ∧ (after .hookDebounceExpiry hooked).retention.lineCount = 0 := by
  decide +kernel

def stalled : State := withWinch .stalled { active with winch := { active.winch with neutralRun := some (timerAt 0 1000) } }

/-- R168. -/
theorem test_stall_neutral_run : (after .stallNeutralRunExpiry stalled).winch.st = .idle := by decide +kernel

/-- R174: TIMEOUT with the pulses moved. -/
theorem test_job_timeout :
    (after .jobTimeout (running haulJob [] active)).winch.queue = [] ∧
      (after .jobTimeout (running haulJob [] active)).winch.st = .stopping := by decide +kernel

def freeJob : Job := { haulJob with kind := .freeFor, amount := some 100 }

/-- R173: the queue goes on. -/
theorem test_free_for : (after .freeForExpiry (running freeJob [haulJob] active)).winch.queue = [haulJob] := by decide +kernel

/-- R182: P1 loops on its one step. -/
theorem test_pattern_step : (after (.patternStep 3) active).lights.chans.e3.timer = some (timerAt 1000 100) := by decide +kernel

def blinking : State := { active with lights := { active.lights with blinker := some { step := 0, timer := timerAt 0 500 } } }

/-- R186: the second step of P2. -/
theorem test_blinker_step :
    (after .blinkerStep blinking).lights.blinker = some { step := 1, timer := timerAt 1000 500 } := by decide +kernel

def tipped : State := { active with pins := { active.pins with tilt := true } }

/-- R193. -/
theorem test_tilt_debounce : (after .tiltDebounceExpiry tipped).lights.tilted = true := by decide +kernel

def arming : State :=
  { active with lights := { active.lights with tiltArm := some (timerAt 0 1000), linkArm := some (timerAt 0 1000) } }

/-- R194. -/
theorem test_tilt_arming : (after .tiltArmingExpiry arming).lights.locate = true := by decide +kernel
/-- R194. -/
theorem test_link_arming : (after .linkArmingExpiry arming).lights.locate = true := by decide +kernel

def assisting : State := { active with assist := { active.assist with window := some (timerAt 0 1000) } }

/-- R206. -/
theorem test_assist_window : (after .assistWindowExpiry assisting).assistActive = false := by decide +kernel

/-- R209. -/
theorem test_commit_end :
    (after (.commitEnd true) (writing late)).store.commit = .done ∧
      (after (.commitEnd false) (writing late)).store.commit = .failed := by decide +kernel

/-- 12.2: UNKNOWN (4). -/
theorem test_unknown_request : (after (.unknownRequest 0x16 (request [])) late).assist.slot = [4, 0x16, 0] := by decide +kernel

/-- R204: nothing is taken; what was clocked is shifted out. -/
theorem test_incomplete_transaction :
    (after (.incompleteTransaction [0x06, 4]) late).assist = { late.assist with shifted := [0, 0] } := by decide +kernel

/-- R166: 20 ms. -/
theorem test_hook_input : (after (.hookInputChange true) late).winch.hookRun = some (timerAt 1000 20) := by decide +kernel
/-- R193: 200 ms. -/
theorem test_tilt_input : (after (.tiltInputChange true) late).lights.tiltRun = some (timerAt 1000 200) := by decide +kernel

/-! ## Witnesses: for each statement with hypotheses, states and operands that meet them, clause by clause -/

/-- The state after reset with a command in front. -/
def fronted (c : Instr) : State := { State.reset with pending := [c] }

theorem witness_IdleStepIsOneMillisecond :
    State.reset.pending = [] ∧ State.reset.powered = true ∧ unpowered.pending = [] ∧ unpowered.powered = false := by
  decide +kernel

theorem witness_LogAndAlertAgree :
    (LogOk (fronted .escFrame) ∧ AlertOk (fronted .escFrame)) ∧ ∃ t, step (fronted .escFrame) = .next t :=
  ⟨by unfold LogOk AlertOk; decide +kernel, _, rfl⟩

theorem witness_GatesFollowConditions :
    GatesOk (fronted .escFrame) ∧ ∃ t, step (fronted .escFrame) = .next t :=
  ⟨by unfold GatesOk; decide +kernel, _, rfl⟩

theorem witness_ConditionCopyFollowsOwners :
    CopyOk (fronted .escFrame) ∧ ∃ t, step (fronted .escFrame) = .next t :=
  ⟨by intro _ c; cases c <;> decide +kernel, _, rfl⟩

theorem witness_JobsRunUnderAssist :
    JobsOk { queued [haulJob] active with pending := [.jobTimeout] } ∧
      ∃ t, step { queued [haulJob] active with pending := [.jobTimeout] } = .next t :=
  ⟨⟨by decide +kernel, by decide +kernel, fun _ => ⟨winchClaim none, by decide +kernel⟩⟩, _, rfl⟩

theorem witness_MotionKeepsToTheLevel :
    (MotionOk (fronted .escFrame) ∧ SteerOk (fronted .escFrame) ∧ CountOk (fronted .escFrame)) ∧
      (fronted .escFrame).powered = true ∧ ∃ t, step (fronted .escFrame) = .next t :=
  ⟨by unfold MotionOk SteerOk CountOk; decide +kernel, by decide +kernel, _, rfl⟩

/-- A write of limp_mv waits in front. -/
theorem witness_MotionKeepsToTheLevel_order :
    let s := fronted (.writeSetting (request [0x06, 0x01, 0xAB, 0x0D]))
    OrderOk s ∧ (∃ t, step s = .next t ∧ t.cfg.pack.limpMv = 3499) := by
  refine ⟨⟨by unfold Settings.ordered; decide +kernel, by unfold Settings.ordered; decide +kernel, ?_⟩, _, rfl, by decide +kernel⟩
  intro image t0 h
  have none : (fronted (.writeSetting (request [0x06, 0x01, 0xAB, 0x0D]))).store.writing = none := by decide +kernel
  exact absurd (none ▸ h) (by simp)

/-- A pack at CUTOFF, with limp-home unused or used. -/
def latched (used : Bool) (c : Instr) : State :=
  { active with
    retention := { active.retention with identity := some { pack3 with level := .cutoff, limpUsed := used } }
    protection := { active.protection with effective := .cutoff }, pending := [c] }

theorem witness_MotionKeepsToTheLevel_latch :
    (latched false (.limpHome (request []))).voltageLevel = .cutoff ∧
      (latched true (.limpHome (request []))).voltageLevel = .cutoff ∧
      (after (.limpHome (request [])) (latched false .escFrame)).voltageLevel = .limp ∧
      (after (.limpHome (request [])) (latched true .escFrame)).voltageLevel = .cutoff := by decide +kernel

theorem witness_GrantsStayWithinHeadroom :
    BudgetOk (fronted .escFrame) ∧ ∃ t, step (fronted .escFrame) = .next t :=
  ⟨by unfold BudgetOk grantsWithin ClassShare.ok; decide +kernel, _, rfl⟩

/-- The estimate at both ends of its range, and a new value 7 away. -/
theorem witness_EstimatorStepsOneEighth :
    ((1 ≤ (1 : Nat) ∧ 1 ≤ 250) ∧ 1 ≤ (250 : Nat) ∧ 250 ≤ 250) ∧ (((8 : Nat) : Int) - (1 : Nat)).natAbs < 8 := by decide

/-- R30 at V_floor, one mV above it, at the ceiling and one above; R36 to R40 at an exact cover and one below it. -/
theorem witness_AllotmentArithmetic :
    (9900 ≤ 9900 ∧ 9900 < 9901 ∧ (9901 - 9900) * 1000 / 1 ≤ 1000 ∧ 999 < (9901 - 9900) * 1000 / 1) ∧
      (1 + 2 + 3 + 4 + 5 ≤ 15 ∧ 14 < 1 + 2 + 3 + 4 + 5) ∧
      (active.supply.state = .active ∧ active.protection.effective ≠ .cutoff ∧ parked.supply.state = .park ∧
        late.supply.state = .qualify) := by decide +kernel

/-- A claim of each kind at the ends of the clauses. -/
theorem witness_MergeRule :
    ((winchClaim none).kind = .full ∧ ({ winchClaim none with kind := .blend } : Claim).kind = .blend ∧
        ({ winchClaim none with kind := .cap } : Claim).kind = .cap) ∧
      (let offset (v : Int) : Int := max (-((200 : Nat) : Int)) (min (200 : Nat) v)
       (-1000 ≤ 800 + offset 201 ∧ 800 + offset 201 ≤ 1000) ∧ (-1000 ≤ -800 + offset (-201) ∧ -800 + offset (-201) ≤ 1000) ∧
         1000 < 801 + offset 200 ∧ -801 + offset (-200) < -1000) ∧
      (((500 : Int).natAbs : Int) ≤ 500 ∧ (499 : Int) < (500 : Int).natAbs ∧ (499 : Int) < (-500 : Int).natAbs) := by decide

/-- The factory latches and a latch with both terms, the reset one failing. -/
theorem witness_GatesAndLatches :
    let l : Latch := { set := some ⟨.winchMoving, false⟩, reset := some ⟨.tilted, true⟩ }
    (late.interlock.conds.get .tilted ≠ true ∧ late.interlock.conds.get .winchMoving = false) ∧
      factoryInterlock.latchA.set = none ∧ factoryInterlock.latchA.reset = none ∧
      l.reset = some ⟨.tilted, true⟩ ∧ active.interlock.conds.get .tilted = !true := by decide +kernel

/-- A gate on TILTED, and the copy in which it closes. -/
def gated (t : Target) (a : GateAction) (s : State) : State :=
  let g : Gate := { enabled := true, target := some t, terms := [⟨.tilted, false⟩], action := a }
  { s with store := { s.store with working := { s.store.working with interlock := { s.store.working.interlock with
      gates := s.store.working.interlock.gates.set 0 g } } } }

def tiltedConds (s : State) : Conds := { s.interlock.conds with tilted := true }

/-- A target that enters RELEASED and one that enters HELD; a running job that moves in a direction released, with one queued; a
latch that names a changed condition and one that does not. -/
theorem witness_GatesAndLatches_taken :
    (let s := gated .winchHaul .release (running haulJob [haulJob] active)
     (derive s.cfg.interlock (tiltedConds s)).targets.winchHaul = .released ∧ s.interlock.targets.winchHaul = .opened ∧
       s.winch.st = .hauling ∧ s.winch.running = some jobRun ∧ s.winch.queue = haulJob :: [haulJob] ∧
       haulJob.kind.motion = .hauling) ∧
      (let s := gated .steerRear .hold active
       (derive s.cfg.interlock (tiltedConds s)).targets.steerRear = .held ∧ s.interlock.targets.steerRear = .opened ∧
         s.runningJob = none) ∧
      (let l : Latch := { set := some ⟨.tilted, true⟩, reset := none }
       l.set = some ⟨.tilted, true⟩ ∧ (⟨.tilted, true⟩ : GateTerm).cond = (Cond.tilted, true).1 ∧
         factoryInterlock.latchA.set = none ∧ factoryInterlock.latchB.set = none) := by decide +kernel

/-- The factory servo: targets within, on and beyond its endpoints; a distance of one step and of one more. -/
theorem witness_SteeringArithmetic :
    (factoryServo.endLow < factoryServo.endHigh) ∧
      (let t (c : Int) := 1500 + factoryServo.trim + (if factoryServo.rev = true then -1 else 1) * (c * factoryServo.throw).tdiv 1000
       t 0 = 1500 ∧ t 1250 = 2000 ∧ factoryServo.endHigh < t 1253 ∧ t (-1253) < factoryServo.endLow) ∧
      (1 ≤ 7 * 37 / 256) ∧ (((1540 : Int) - 1500).natAbs ≤ 40 ∧ 40 < ((1541 : Int) - 1500).natAbs ∧ 40 < ((1459 : Int) - 1500).natAbs) := by
  decide +kernel

theorem witness_DriveArithmetic :
    (((1000 : Int) * (256 : Nat)).tdiv 256).natAbs ≤ 100 * 10 ∧ 40 * 10 < (((401 : Int) * (256 : Nat)).tdiv 256).natAbs ∧
      ((0 : Int) < 5 ∧ (5 : Int) ≤ 5) ∧ ((-5 : Int) < 0 ∧ (-5 : Int) ≤ -5) ∧
      (0 < 1 ∧ (0 : Int) < 6 ∧ (0 : Int) < 5 ∧ (5 : Int) < 6) ∧ ((0 : Int) < 6 ∧ (0 : Int) ≤ 0) ∧
      ((-6 : Int) < 0 ∧ (-5 : Int) < 0 ∧ (-6 : Int) < -5) ∧ ((-6 : Int) < 0 ∧ (0 : Int) ≤ 0) := by decide

def ringOf (n : Nat) : List LogRecord := List.replicate n (record State.reset .start [0])

/-- 47 records, 48 with one read, 48 unread. -/
theorem witness_LogEntryRule :
    ((ringOf 47).length < 48 ∧ 47 ≤ (ringOf 47).length) ∧ ((ringOf 48).length = 48 ∧ 47 < 48 ∧ 47 ≤ (ringOf 48).length) ∧
      ((ringOf 48).length = 48 ∧ 48 ≤ (ringOf 48).length) := by decide +kernel

/-- Each width, at its ends. -/
theorem witness_NumbersReadBack :
    ((0 : Int) ≤ 65535 ∧ (65535 : Int) ≤ 65535) ∧ ((-32768 : Int) ≤ -32768 ∧ (32767 : Int) ≤ 32767) ∧
      ((0 : Int) ≤ 255 ∧ (255 : Int) ≤ 255) := by decide

/-- A number at its bound and beyond it, a number of the wrong length, and a byte of a list and one beside it. -/
theorem witness_NumbersReadBack_admits :
    ((0x0102, 0, 50) ∈ numberSettings ∧ decodeNum (widthOf 0 50) [51] = some 51 ∧ nearest 0 50 51 = 50 ∧
        decodeNum (widthOf 0 50) [51, 0] = none) ∧
      ((0x0106, 2900, 3900) ∈ numberSettings ∧ decodeNum (widthOf 2900 3900) [0xAC, 0x0D] = some 3500) ∧
      ((0x070D, [5, 10, 20]) ∈ byteSettings ∧ (20 : Byte).toNat ∈ [5, 10, 20] ∧ (21 : Byte).toNat ∉ [5, 10, 20]) ∧
      ((settingOf 0 0x0101).isSome = true ∧ (settingOf 0 0x0900).isSome = true ∧ (settingOf 0 0x010B).isSome = true) := by
  decide +kernel

/-- limp_mv just below conserve_mv and at it. -/
theorem witness_NumbersReadBack_thresholds :
    orderedWith factorySettings 0x0106 3499 ∧ ¬orderedWith factorySettings 0x0106 3500 := by
  unfold orderedWith; decide +kernel

/-- end_low_f just below end_high_f and at it. -/
theorem witness_NumbersReadBack_endpoints :
    orderedWith factorySettings 0x0704 1999 ∧ ¬orderedWith factorySettings 0x0704 2000 := by
  unfold orderedWith; decide +kernel

theorem witness_TakenRequestIsActivity :
    late.supply.state ≠ .park ∧ (active.supply.state = .active ∧ active.cfg.supply.parkIdleMin ≠ 0) ∧
      parked.supply.state = .park ∧ parked.pins.srvPg = false ∧
      { parked with pins := { parked.pins with srvPg := true } }.pins.srvPg = true := by decide +kernel

/-- One byte too many for NOP, and both lengths beside the range of WRITE_SETTING. -/
theorem witness_RequestsThatReachNoOwner :
    unpowered.supply.state = .retain ∧ late.supply.state ≠ .retain ∧
      catalogueRow (.nop (request [0])) = some { code := 0x01, request := request [0], lengths := [0] } ∧
      (request [0]).params.length ∉ [0] ∧ (request [0, 0]).params.length ∉ writeLengths ∧
      (request (List.replicate 31 0)).params.length ∉ writeLengths := by decide +kernel

theorem witness_ReadRequestsAnswer :
    late.powered = true ∧ parked.powered = true ∧ (request []).params = [] ∧
      (taken true late).retention.identity = none ∧ (taken true active).retention.identity = some pack3 ∧
      (12000 ≤ 65535 ∧ (packData active).length = 37 ∧ (allotmentData active.budget).length = 44) := by decide +kernel

def allRead : State := { late with retention := { late.retention with log := { late.retention.log with unread := 0 } } }

theorem witness_ReadLogReturnsTheOldestUnread :
    (late.powered = true ∧ LogOk late ∧ (request []).params = [] ∧
        (taken true late).retention.log.unreadRecords = record State.reset .start [0] :: []) ∧
      allRead.powered = true ∧ LogOk allRead ∧ (taken true allRead).retention.log.unreadRecords = [] := by
  unfold LogOk; decide +kernel

/-- FULL on THROTTLE at 1,000 with the link UP; a scene of 3 on LIGHTS with no link; a refresh of a held claim. -/
theorem witness_ClaimIsTaken :
    (active.powered = true ∧ fnOfCode (0 : Byte).toNat = some .throttle ∧ claimKindOfCode (0 : Byte).toNat = some .full ∧
        kindAllowed .throttle .full = true ∧ valuePossible .throttle (int16 0xE8 3) = true ∧
        ((taken true active).authority.entries.get .throttle).claim = none ∧
        ((taken true active).authority.entries.get .throttle).lockout = none ∧ (taken true active).radio.link = .up) ∧
      (late.powered = true ∧ fnOfCode (4 : Byte).toNat = some .lights ∧ kindAllowed .lights .full = true ∧
        valuePossible .lights (int16 3 0) = true ∧ ((taken true late).authority.entries.get .lights).claim = none ∧
        ((taken true late).authority.entries.get .lights).lockout = none ∧ Fn.lights ≠ .winch) ∧
      (fnOfCode (1 : Byte).toNat = some .steer ∧ claimKindOfCode (1 : Byte).toNat = some .blend ∧
        kindAllowed .steer .blend = true ∧ valuePossible .steer (int16 0xFF 0xFF) = true ∧
        (((taken true expiring).authority.entries.get .steer).claim).isSome = true) := by decide +kernel

theorem witness_ClaimIsRefused :
    (fnOfCode (5 : Byte).toNat = none ∧ claimKindOfCode (3 : Byte).toNat = none) ∧
      (kindAllowed .steerMode .full = true ∧ 3 < int16 4 0 ∧ int16 0xFF 0xFF < 0 ∧ ClaimKind.blend ≠ .full) ∧
      (valuePossible .steer (int16 0 0) = true ∧ ((taken true (locked .steer active)).authority.entries.get .steer).claim = none ∧
        ((taken true (locked .steer active)).authority.entries.get .steer).lockout ≠ none) ∧
      (((taken true late).authority.entries.get .winch).claim = none ∧ ((taken true late).authority.entries.get .winch).lockout = none ∧
        (taken true late).radio.link ≠ .up) := by decide +kernel

theorem witness_ReleaseEndsTheClaim :
    active.powered = true ∧ fnOfCode (5 : Byte).toNat = none ∧ fnOfCode (3 : Byte).toNat = some .winch ∧
      ((taken true active).authority.entries.get .winch).claim = none ∧
      ((taken true (queued [haulJob] active)).authority.entries.get .winch).claim = some (winchClaim none) := by decide +kernel

/-- Three jobs held and room for one; each row of the refusals. -/
theorem witness_WinchJobIsJudged :
    (let u := taken true (queued [haulJob, haulJob, haulJob] active)
     jobKindOfCode (0 : Byte).toNat = some .haulBy ∧ u.winch.queue.length < 4 ∧ u.authority.entries.winch.lockout = none ∧
       u.radio.link = .up ∧ u.supply.state = .active ∧ u.protection.effective ≠ .cutoff ∧ u.winch.st ≠ .stalled ∧
       u.authority.entries.winch.claim ≠ none) ∧
      (let u := taken true active
       u.winch.queue.length < 4 ∧ u.authority.entries.winch.lockout = none ∧ u.radio.link = .up ∧ u.supply.state = .active ∧
         u.protection.effective ≠ .cutoff ∧ u.winch.st ≠ .stalled ∧ u.authority.entries.winch.claim = none ∧ u.winch.queue = []) ∧
      (jobKindOfCode (5 : Byte).toNat = none ∧ jobKindOfCode (3 : Byte).toNat = some .haulToStow ∧
        (request [3, 0, 0, 0, 0, 0]).params.length = 6 ∧ (request [0, 0, 0, 0, 0, 0, 0, 0]).params.length = 8 ∧
        4 ≤ (taken true (queued [haulJob, haulJob, haulJob, haulJob] active)).winch.queue.length ∧
        (taken true (locked .winch active)).authority.entries.winch.lockout ≠ none ∧ (taken true late).radio.link ≠ .up) := by
  decide +kernel

/-- R170: an amount above its range is limited; the tension amount at stall_ma − 500 is kept and counts as limited, 1 mA below it is
not. -/
theorem test_winch_job_amounts :
    (acceptedJob 12000 .payoutBy 500 100 9 (some 60001)) =
        ({ kind := .payoutBy, amount := some 60000, duty := 500, timeout := 100, tag := 9 }, true) ∧
      ((acceptedJob 12000 .haulToTension 500 100 9 (some 11500)).1.amount,
          (acceptedJob 12000 .haulToTension 500 100 9 (some 11500)).2) =
        (some 11500, true) ∧
      (acceptedJob 12000 .haulToTension 500 100 9 (some 11499)).2 = false := by decide +kernel

theorem witness_WinchCancelAndClear :
    active.powered = true ∧ (taken true active).winch.queue = [] ∧ (taken true active).winch.st ≠ .stalled ∧
      (taken true (queued [haulJob] active)).winch.running = none ∧
      ((taken true (running haulJob [haulJob] active)).winch.running = some jobRun ∧
        (taken true (running haulJob [haulJob] active)).winch.queue = haulJob :: [haulJob]) ∧
      (taken true (withWinch .stalled active)).winch.st = .stalled ∧
      (let u := taken true (queued [haulJob, haulJob] active)
       u.winch.queue ≠ [] ∧ u.winch.running = none ∧ u.interlock.conds.winchMoving = u.winchMoving) := by decide +kernel

def located : State := { active with lights := { active.lights with locate := true } }

theorem witness_HazardAndAckLocate :
    active.powered = true ∧ (request []).params = [] ∧ (1 : Byte).toNat ≤ 1 ∧ 1 < (2 : Byte).toNat ∧
      (taken true active).lights.locate = false ∧ (taken true located).lights.locate = true := by decide +kernel

def withPack (i : Identity) (s : State) : State := { s with retention := { s.retention with identity := some i } }

def atCutoff (used : Bool) : State :=
  withLevel .cutoff (withPack { pack3 with level := .cutoff, limpUsed := used } active)

theorem witness_LimpHomeIsGrantedOnce :
    ((taken true (atCutoff false)).supply.state ≠ .qualify ∧
        (taken true (atCutoff false)).retention.identity = some { pack3 with level := .cutoff } ∧
        (taken true (atCutoff false)).protection.energy ≠ .cutoff) ∧
      (taken true (atCutoff true)).retention.identity = some { pack3 with level := .cutoff, limpUsed := true } ∧
      (taken true late).supply.state = .qualify ∧ (taken true active).voltageLevel ≠ .cutoff := by decide +kernel

theorem witness_ParkingIsEntered :
    late.supply.state = .qualify ∧ parked.supply.state = .park ∧ active.supply.state = .active ∧
      (idling.supply.state = .active ∧ dueAt idling.supply.idle idling.now = true ∧ idling.winch.st = .idle ∧
        idling.steering.phase = .steady) ∧
      (withWinch .stopping idling).winch.st = .stopping := by decide +kernel

/-- reserve_pct (0x0102) within and beyond its range, protection_mode (0x010B) with a code that is neither, and an identifier of
no chapter. -/
theorem witness_SettingRequests :
    (settingOf 0 (num16 0x00 0x20)).isNone = true ∧ late.store.writing = none ∧ (writing late).store.writing ≠ none ∧
      (settingOf 0 (num16 0x02 0x01)).map (fun d => d.write [20] factorySettings) = some (.stored factorySettings false) ∧
      (settingOf 0 (num16 0x02 0x01)).map (fun d => d.write [20, 0] factorySettings) = some .invalid ∧
      (settingOf 0 (num16 0x0B 0x01)).map (fun d => d.write [0] factorySettings) = some (.stored factorySettings true) := by
  decide +kernel

/-- The factory value of the setting is stored as it is. -/
def stores (id : Nat) : Bool :=
  match settingOf 0 id with
  | some d =>
    match d.write (d.read factorySettings) factorySettings with
    | .stored _ clamped => !clamped
    | .invalid => false
  | none => false

/-- A setting of every clause that says what a write does at once. -/
theorem witness_SettingRequests_effects :
    ([0x0102, 0x0303, 0x0302, 0x0412, 0x0415, 0x0404, 0x0500, 0x0501, 0x0600, 0x0607, 0x0608, 0x0609, 0x0A00, 0x0A07, 0x0A08,
      0x0A0D, 0x0A0E, 0x0A12, 0x0A14, 0x0B00] : List Nat).all stores = true := by decide +kernel

/-- A pattern entry of one step that lasts `u` units, and a gesture entry of one term with this threshold. -/
def oneStep (u : Byte) : List Byte := [1, 255, u] ++ List.replicate 15 0
def oneTerm (lo hi : Byte) : List Byte := [1, 1, 2, 1, lo, hi] ++ List.replicate 8 0 ++ [0xF4, 1, 0]

/-- A value of each form that carries numbers, just within its range and just beyond it, as it is stored. -/
theorem witness_SettingRequests_nearest :
    (nearestBytes 0 0x0102 [50] = [50] ∧ nearestBytes 0 0x0102 [51] = [50]) ∧
      (nearestBytes 0 0x0101 [0, 0] = [0, 0] ∧ nearestBytes 0 0x0101 [99, 0] = [100, 0]) ∧
      (nearestBytes 0 0x010B [0xC3] = [0xC3] ∧ nearestBytes 0 0x010B [0] = [0x3C]) ∧
      (nearestBytes 299 0x0900 [44, 1] = [44, 1] ∧ nearestBytes 301 0x0900 [44, 1] = [45, 1]) ∧
      (nearestBytes 0 0x0A00 [0, 0, 0xD0, 7, 9, 1] = [0, 0, 0xD0, 7, 9, 1] ∧
        nearestBytes 0 0x0A00 [0, 0, 0xD1, 7, 9, 1] = [0, 0, 0xD0, 7, 9, 1] ∧
        classGiven 0x0A00 [6, 0xFF, 0, 0, 9, 1] = [6, 1, 0, 0, 9, 1]) ∧
      (nearestBytes 0 0x0A08 (oneStep 1) = oneStep 1 ∧ nearestBytes 0 0x0A08 (oneStep 0) = oneStep 1) ∧
      (nearestBytes 0 0x0412 (oneTerm 0x18 0xFC) = oneTerm 0x18 0xFC ∧
        nearestBytes 0 0x0412 (oneTerm 0x17 0xFC) = oneTerm 0x18 0xFC) := by decide +kernel

theorem witness_SettingRequests_padded : padded 0x0A08 (oneStep 1) := by unfold padded; dsimp only; decide +kernel

theorem witness_SettingRequests_padded_gesture : padded 0x0412 (oneTerm 0x18 0xFC) := by
  unfold padded; dsimp only; decide +kernel

def readyToCommit (s : State) : State := { s with supply := { s.supply with backupReady := true } }

theorem witness_CommitRestoreAndClearCauses :
    (request []).params = [] ∧ (taken true (writing late)).store.writing ≠ none ∧
      ((taken true late).store.writing = none ∧ (taken true late).supply.backupReady = false) ∧
      (taken true (readyToCommit late)).supply.backupReady = true ∧
      ((taken true active).store.writing = none ∧ (taken true active).supply.state = .active) := by decide +kernel

def writingFresh : State := { writing late with store := { late.store with writing := some (late.cfg, timerAt 941 60) } }
def writtenJust : State := { writing late with store := { late.store with writing := some (late.cfg, timerAt 940 60) } }

/-- 59 ms and 60 ms after the write began. -/
theorem witness_CommitEndsAfterItsWrite :
    late.store.writing = none ∧
      (writingFresh.store.writing = some (late.cfg, timerAt 941 60) ∧ elapsed writingFresh.now 941 < 60) ∧
      (writtenJust.store.writing = some (late.cfg, timerAt 940 60) ∧ 60 ≤ elapsed writtenJust.now 940 ∧
        writtenJust.supply.attachWaiting = none) := by decide +kernel

/-- An attach that waited, with the contents kept and with a cell below the retention minimum. -/
def attachWaits (backup : Nat) : State :=
  { writtenJust with supply := { writtenJust.supply with state := .retain, attachWaiting := some (12000, backup) } }

theorem witness_CommitEndsAfterItsWrite_attach :
    (attachWaits 2000).store.writing = some (late.cfg, timerAt 940 60) ∧
      (attachWaits 2000).supply.attachWaiting = some (12000, 2000) ∧ 60 ≤ elapsed (attachWaits 2000).now 940 ∧
      (attachWaits 2000).retention.valid = true ∧ (attachWaits 1999).supply.attachWaiting = some (12000, 1999) := by
  decide +kernel

/-- R210, R204: the start made at the end of the write answers START with its cause. -/
theorem test_commit_end_attach :
    (after (.commitEnd true) (attachWaits 2000)).assist.slot = [0, 0, 1, 1] ∧
      (after (.commitEnd true) (attachWaits 1999)).assist.slot = [0, 0, 1, 0] := by decide +kernel

/-- At the attach level and 1 mV below it; equal to the backup cell; the contents valid with the cell at the retention minimum,
or not. -/
theorem witness_AttachStartsThePart :
    unpowered.supply.state = .retain ∧ (writing unpowered).supply.state = .retain ∧ (writing unpowered).store.writing ≠ none ∧
      unpowered.store.writing = none ∧ unpowered.retention.valid = true := by decide +kernel

theorem witness_RestartRequest :
    active.powered = true ∧ (request []).params = [] ∧ (taken true (writing active)).store.writing ≠ none ∧
      (taken true active).store.writing = none ∧ (taken true active).supply.state = .active ∧
      (taken true late).store.writing = none ∧ (taken true late).supply.state ≠ .active := by decide +kernel

theorem witness_RemovalAndLossOfRetention :
    active.powered = true ∧ late.powered = true ∧
      (unpowered.supply.state = .retain ∧ unpowered.supply.attachWaiting = none ∧ unpowered.retention.valid = true ∧
        unpowered.store.writing = none) ∧
      (writing unpowered).supply.attachWaiting = none ∧ (writing unpowered).store.writing ≠ none ∧
      ((writing active).powered = true ∧ (writing active).store.writing ≠ none ∧ active.store.writing = none) := by
  decide +kernel

def ready (armed : Bool) : State := { late with supply := { late.supply with backupReady := true, backupArmed := armed } }

theorem witness_BackupMeasurementSetsReady :
    late.powered = true ∧ late.supply.backupClock.due late.now = true ∧ late.supply.backupReady = false ∧
      ((ready true).supply.backupReady = true ∧ (ready true).supply.backupArmed = true ∧
        (ready true).supply.backupClock.due (ready true).now = true) ∧
      (ready false).supply.backupArmed = false := by decide +kernel

theorem witness_ServoRailFollowsPowerGood :
    (waiting.supply.rail = .wait ∧ dueAt waiting.supply.railWait waiting.now = true) ∧ active.supply.rail = .good ∧
      late.supply.rail = .off := by decide +kernel

/-- QUALIFY with a window that began at `first` and held 12,000 mV. -/
def windowed (first : Time) (s : State) : State :=
  { s with supply := { s.supply with window := some { first := first, low := 12000, high := 12000 } } }

def keptPack (d : Nat) : State := withPack { pack3 with disconnect := some d } (windowed 500 late)

/-- Both edges of the band and beyond; a spread of 100 and 101 mV; 499 and 500 ms; the same pack at 75 mV and a new one at 76. -/
theorem witness_QualificationIsJudged :
    (late.supply.state = .qualify ∧ late.monitor.clock.due late.now = true ∧ late.supply.window = none ∧
        late.supply.marks.get .low = false) ∧
      (taken16 2499 < 2500 ∧ 17400 < taken16 17401 ∧ 2500 ≤ taken16 2500 ∧ taken16 17400 ≤ 17400) ∧
      (100 < Nat.max 12000 (taken16 12101) - Nat.min 12000 (taken16 12101) ∧
        Nat.max 12000 (taken16 12100) - Nat.min 12000 (taken16 12100) ≤ 100) ∧
      ((windowed 501 late).supply.state = .qualify ∧ (windowed 501 late).supply.window = some { first := 501, low := 12000, high := 12000 } ∧
        elapsed (windowed 501 late).now 501 < 500) ∧
      (500 ≤ elapsed (windowed 500 late).now 500 ∧ (windowed 500 late).cfg.supply.cellCount = none ∧
        (windowed 500 late).retention.identity = none) ∧
      ((keptPack 12075).supply.state = .qualify ∧ (keptPack 12075).monitor.clock.due (keptPack 12075).now = true ∧
        (keptPack 12075).supply.afterRestart = false ∧
        (keptPack 12075).retention.identity = some { pack3 with disconnect := some 12075 } ∧ cellsAuto (taken16 12000) = 3 ∧
        ¬((keptPack 12075).cfg.supply.samePackMv * 3 < ((12000 : Int) - (12075 : Nat)).natAbs) ∧
        (keptPack 12076).cfg.supply.samePackMv * 3 < ((12000 : Int) - (12076 : Nat)).natAbs) := by decide +kernel

/-- A fixed count of three, and a restart that kept the pack. -/
def fixedCells (s : State) : State :=
  { s with store := { s.store with working := { s.cfg with supply := { s.cfg.supply with cellCount := some 3 } } } }
def restarted (s : State) : State := { s with supply := { s.supply with afterRestart := true } }

/-- A fixed count at and 1 mV above count × 4,350 mV; a pass after a restart, and one that kept no identity. -/
theorem witness_QualificationIsJudged_fixed :
    ((fixedCells (windowed 500 late)).cfg.supply.cellCount = some 3 ∧ 3 * 4350 < taken16 13051 ∧ ¬3 * 4350 < taken16 13050 ∧
        (fixedCells (windowed 500 late)).supply.afterRestart = false ∧ (fixedCells (windowed 500 late)).retention.identity = none) ∧
      ((restarted (keptPack 9000)).supply.afterRestart = true ∧
        (restarted (keptPack 9000)).retention.identity = some { pack3 with disconnect := some 9000 } ∧
        (restarted (keptPack 9000)).supply.window = (keptPack 9000).supply.window) ∧
      ((restarted (windowed 500 late)).supply.afterRestart = true ∧ (restarted (windowed 500 late)).retention.identity = none) := by
  decide +kernel

/-- R59: after a restart the pack is SAME, however far its voltage. -/
theorem test_sample_set_restarted :
    (after (.sampleSet 12000 0 0 0) (restarted (keptPack 9000))).retention.identity =
      some { pack3 with disconnect := some 9000 } := by decide +kernel

theorem witness_RunningSetUpdatesThePackRecord :
    active.supply.state = .active ∧ active.monitor.clock.due active.now = true ∧ active.retention.identity = some pack3 ∧
      parked.supply.state = .park ∧ parked.monitor.clock.due parked.now = true ∧ parked.retention.identity = some pack3 := by
  decide +kernel

/-- ACTIVE at NORMAL with every level timer open since 0. -/
def dropping : State :=
  { active with
    protection := { active.protection with
      conserveT := .running 0, limpT := .running 0, cutoffT := .running 0, floorT := some 0, rising := some 0 } }

/-- R14, R19: 9,000 mV on three cells is below every threshold for its dwell. -/
theorem test_sample_set_cutoff :
    (after (.sampleSet 9000 0 0 0) dropping).protection.effective = .cutoff := by decide +kernel

/-- A set that changes the effective level, and one that leaves it. -/
theorem witness_RunningSetUpdatesThePackRecord_levels :
    dropping.retention.identity = some pack3 ∧ dropping.monitor.clock.due dropping.now = true ∧
      dropping.supply.state = .active ∧ dropping.protection.effective = .normal ∧
      (after (.sampleSet 9000 0 0 0) dropping).protection.effective ≠ dropping.protection.effective ∧
      (after (.sampleSet 12000 0 0 0) dropping).protection.effective = dropping.protection.effective := by decide +kernel

def overTrip (trips : List Time) : State :=
  withPack { pack3 with trips := trips } { active with monitor := { active.monitor with tripRun := some 800 } }

/-- capacity_mah 0, and the factory capacity. -/
theorem witness_RunningSetUpdatesThePackRecord_capacity :
    (let s := { active with store := { active.store with working :=
        { active.cfg with pack := { active.cfg.pack with capacityMah := 0 } } } }
     s.cfg.pack.capacityMah = 0 ∧ s.monitor.clock.due s.now = true ∧ s.retention.identity = some pack3) ∧
      active.cfg.pack.capacityMah ≠ 0 := by decide +kernel

/-- A set 1 mA below trip_ma, one at it that opens the run, one that continues it 1 ms before trip_ms, and one that finds the trip. -/
theorem witness_RunningSetUpdatesThePackRecord_trips :
    taken16 44999 < active.cfg.pack.tripMa ∧ ¬taken16 45000 < active.cfg.pack.tripMa ∧ active.monitor.tripRun = none ∧
      (after (.sampleSet 12000 45000 0 0) active).monitor.tripRun = some 1000 ∧
      (let s := { overTrip [] with monitor := { (overTrip []).monitor with tripRun := some 801 } }
       elapsed s.now 801 < s.cfg.pack.tripMs ∧ (after (.sampleSet 12000 45000 0 0) s).monitor.tripRun = some 801) ∧
      (after (.sampleSet 12000 45000 0 0) (overTrip [])).monitor.tripRun = some 1000 := by decide +kernel

/-- Exactly trip_ma for exactly trip_ms, with no trip and with three held. -/
theorem witness_TripIsFound :
    (overTrip []).supply.state = .active ∧ (overTrip []).monitor.clock.due (overTrip []).now = true ∧
      (overTrip []).retention.identity = some { pack3 with trips := [] } ∧ (overTrip []).monitor.tripRun = some 800 ∧
      (overTrip []).cfg.pack.tripMa ≤ taken16 45000 ∧ (overTrip []).cfg.pack.tripMs ≤ elapsed (overTrip []).now 800 ∧
      ([] : List Time).length ≤ 3 ∧ (overTrip [1, 2, 3]).retention.identity = some { pack3 with trips := [1, 2, 3] } ∧
      ([1, 2, 3] : List Time).length ≤ 3 ∧ tripsCrowded [2, 3, (overTrip []).now] = true ∧
      tripsCrowded [(overTrip []).now] = false := by decide +kernel

theorem witness_ConditionAndLevelTimersEnd :
    dueAt tripping.monitor.tripHold tripping.now = true ∧ dueAt assisting.assist.window assisting.now = true ∧
      (limping.supply.state = .active ∧ limping.protection.energy ≠ .cutoff ∧ limping.protection.effective ≠ .cutoff ∧
        ∃ i, limping.retention.identity = some i ∧ dueAt i.tripLimp limping.now = true ∧ i.level ≠ .cutoff ∧
          dueAt i.limpPeriod limping.now = true) :=
  ⟨by decide +kernel, by decide +kernel, by decide +kernel, by decide +kernel, by decide +kernel, _, rfl, by decide +kernel,
    by decide +kernel, by decide +kernel⟩

def noGestures (s : State) : State :=
  let off : GestureEntry := { enabled := false, terms := [], holdMs := 1000, action := .modeNext }
  { s with store := { s.store with working := { s.store.working with
      radio := { s.store.working.radio with gestures := { e0 := off, e1 := off, e2 := off, e3 := off } } } } }

def valid (flags : Byte) : List Byte := frameBytes flags []

/-- Each fault of a frame; a valid frame, with and without RX_FAILSAFE, in NO_LINK, REARM, UP and LOST; no gesture enabled. -/
theorem witness_FramesAreDroppedOrTaken :
    (active.powered = true ∧ byteAt [0xA8] 0 ≠ 0xA7 ∧ [(0xA7 : Byte)].length ≠ 19 ∧ Reception.overlapsReply ≠ .clean ∧
        xorAll ((((valid 0).take 18 ++ [0]).drop 1).take 17) ≠ byteAt ((valid 0).take 18 ++ [0]) 18) ∧
      (byteAt (valid 0x10) 0 = 0xA7 ∧ (valid 0x10).length = 19 ∧
        xorAll (((valid 0x10).drop 1).take 17) = byteAt (valid 0x10) 18 ∧ (frameOf 0 (valid 0x10)).rxFailsafe = true) ∧
      (byteAt (valid 0x20) 0 = 0xA7 ∧ (valid 0x20).length = 19 ∧
        xorAll (((valid 0x20).drop 1).take 17) = byteAt (valid 0x20) 18 ∧ (frameOf 0 (valid 0x20)).rxFailsafe = false ∧
        (frameOf 0 (valid 0x20)).telemReq = true) ∧
      (late.radio.link = .noLink ∧ active.radio.link = .up ∧ (withLink .rearm active).radio.link = .rearm ∧
        (withLink .lost active).radio.link = .lost) ∧
      ((noGestures active).powered = true ∧ (noGestures active).supply.state ≠ .park ∧
        ∀ i, ((noGestures active).cfg.radio.gestures.get i).enabled = false) ∧
      ((noGestures parked).supply.state = .park ∧ parked.supply.parkModePos = .mid ∧ parked.supply.parkLightsPos = .mid) := by
  decide +kernel

/-- One entry alone: channel 1 above 900 held for 100 ms, with this action, since `start`. -/
def gesturing (a : GestureAction) (start : Time) (s : State) : State :=
  let on : GestureEntry := { enabled := true, terms := [{ channel := 1, above := true, threshold := 900 }], holdMs := 100, action := a }
  let s1 := noGestures s
  { s1 with
    store := { s1.store with working := { s1.store.working with
      radio := { s1.store.working.radio with gestures := s1.store.working.radio.gestures.set 2 on } } }
    radio := { s1.radio with gestures := s1.radio.gestures.set 2 (.timing start none) } }

/-- Channel 1 at 1,000 (E8 03). -/
def stickUp : List Byte := frameBytes 0 [0xE8, 0x03]

/-- An entry judged that fires after 100 ms, one 1 ms short of it, and the same in PARK; entries that are not judged. -/
theorem witness_FramesAreDroppedOrTaken_gestures :
    wholeFrame stickUp ∧
      (let s := gesturing .hazardToggle 900 active
       let e := s.cfg.radio.gestures.get 2
       gestureJudged .up e s ∧ linkOn (frameOf s.now stickUp) s = .up ∧
         (judgeEntry s.now e (frameOf s.now stickUp) (s.radio.gestures.get 2)).2 = true ∧
         (∀ k, k ≠ 2 → (s.cfg.radio.gestures.get k).enabled = false) ∧ ¬gestureJudged .up (s.cfg.radio.gestures.get 0) s ∧
         (after (.radioFrame stickUp .clean) s).lights.hazardGesture = true) ∧
      (let s := gesturing .hazardToggle 901 active
       (judgeEntry s.now (s.cfg.radio.gestures.get 2) (frameOf s.now stickUp) (s.radio.gestures.get 2)).2 = false) ∧
      (let s := gesturing .park 900 parked
       s.supply.state = .park ∧ gestureJudged .up (s.cfg.radio.gestures.get 2) s ∧ GestureAction.hazardToggle ≠ .park) := by
  unfold wholeFrame gestureJudged; decide +kernel

/-- Each action of R88 with its premise met, and with it failed. -/
theorem witness_FramesAreDroppedOrTaken_actions :
    ((latched false .escFrame).retention.identity = some { pack3 with level := .cutoff } ∧
        (latched false .escFrame).supply.state = .active ∧ (latched false .escFrame).protection.energy ≠ .cutoff) ∧
      active.retention.identity = some pack3 ∧ pack3.level ≠ .cutoff ∧ active.lights.locate = false ∧
      ({ active with lights := { active.lights with locate := true } }).lights.locate = true ∧
      (active.winch.queue = [] ∧ active.winch.st = .idle ∧ active.retention.lineCount < active.cfg.winch.maxPayout) ∧
      (withWinch .free active).winch.st = .free ∧ (withWinch .stalled active).winch.st = .stalled ∧
      active.authority.entries.steerMode.claim = none := by decide +kernel

theorem witness_SilenceTimersExpire :
    (held.radio.link = .up ∧ dueAt held.radio.hold held.now = true ∧ dueAt held.radio.failsafe held.now = true) ∧
      ((withLink .rearm held).radio.link ≠ .up ∧ dueAt (withLink .rearm held).radio.hold held.now = true ∧
        (withLink .rearm held).radio.link = .rearm) ∧
      (withLink .holding held).radio.link = .holding ∧ JobsOk held :=
  ⟨by decide +kernel, by decide +kernel, by decide +kernel, by decide +kernel, by decide +kernel,
    fun h => absurd rfl h⟩

def turned (k : TelemKind) : State := { slotOpen with radio := { slotOpen.radio with rotation := k } }

theorem witness_RepliesRotate :
    active.radio.slot = none ∧ slotOpen.radio.slot = some 5 ∧ slotOpen.powered = true ∧ slotOpen.radio.rotation = .pack ∧
      ((turned .energy).radio.rotation = .energy ∧ (turned .energy).monitor.usedMah ≤ 65535) ∧
      ((turned .winch).radio.rotation = .winch ∧ (turned .winch).winch.running = none) ∧
      (let s := running haulJob [] (turned .winch)
       s.radio.rotation = .winch ∧ s.radio.slot = some 5 ∧ s.winch.running = some jobRun ∧ s.winch.queue = haulJob :: []) ∧
      ((turned .notice).radio.rotation = .notice ∧ noticeRecord (turned .notice).retention.log = none) ∧
      noticeRecord { ring := [record late .backupLow [0]], unread := 1, overwritten := false } = some (record late .backupLow [0]) := by
  decide +kernel

theorem witness_ClaimsExpireAndLockoutsEnd :
    ((expiring.authority.entries.get .steer).claim = some { winchClaim (some (timerAt 0 300)) with value := 500 } ∧
        dueAt (some (timerAt 0 300)) expiring.now = true) ∧
      ((queued [haulJob] active).authority.entries.get .winch).claim = some (winchClaim none) ∧
      (((locked .steer active).authority.entries.get .steer).lockout =
          some { began := 0, ends := some (timerAt 0 10), run := some (timerAt 0 10) } ∧
        dueAt (some (timerAt 0 10)) (locked .steer active).now = true) ∧
      dueAt (some (timerAt 991 10)) late.now = false := by decide +kernel

/-- STEER under a claim whose reference is 0, the stick on the limit of takeover_delta and one beyond it; a lockout and no claim; a
frame that leaves the link UP and one that does not. -/
theorem witness_ClaimsExpireAndLockoutsEnd_frames :
    wholeFrame stickUp ∧ linkOn (frameOf expiring.now stickUp) expiring = .up ∧
      takesOver .steer { winchClaim none with reference := 0 } active
        { active with radio := { active.radio with driver := { active.radio.driver with
            steer := (active.cfg.authority.takeoverDelta : Int) + 1 } } } ∧
      ¬takesOver .steer { winchClaim none with reference := 0 } active
        { active with radio := { active.radio with driver := { active.radio.driver with
            steer := (active.cfg.authority.takeoverDelta : Int) } } } ∧
      (after (.radioFrame stickUp .clean) (claimed .steer (winchClaim (some (timerAt 1000 300))) active)).authority.entries.steer.claim =
        none ∧
      ((queued [haulJob] active).authority.entries.get .winch).claim = some (winchClaim none) ∧
      linkOn (frameOf active.now (valid 0x10)) active = .lost ∧
      ((locked .steer active).authority.entries.get .steer).claim = none := by
  unfold wholeFrame takesOver; decide +kernel

/-- Every state of the rear target; a transition that is settled and one that is not; a part that does not emit. -/
theorem witness_SteerFrameMovesTheServos :
    (active.powered = true ∧ active.steering.clock.due active.now = true ∧ active.interlock.targets.steerRear = .opened ∧
        active.supply.state = .active ∧ active.supply.rail = .good) ∧
      (setTarget .steerRear .released active).interlock.targets.steerRear = .released ∧
      ((setTarget .steerRear .held active).interlock.targets.steerRear = .held ∧
        (setTarget .steerRear .held active).steering.freeze = none) ∧
      (late.powered = true ∧ late.steering.clock.due late.now = true ∧ late.supply.state ≠ .active) ∧
      ((transition none active).steering.phase = .transition ∧
        ((transition none active).steering.outF - servoTarget factoryServo 0).natAbs ≤ (transition none active).cfg.steering.settleUs ∧
        ¬((1500 : Int) - servoTarget factoryServo 1000).natAbs ≤ 8) := by decide +kernel

theorem witness_TransitionIsForced :
    (transition none active).steering.phase = .transition ∧
      dueAt (transition none active).steering.timer (transition none active).now = true ∧
      (transition none active).steering.waiting = none ∧ (transition (some .crab) active).steering.waiting ≠ none := by
  decide +kernel

def waitingFor (m : Mode) (s : State) : State :=
  { s with steering := { s.steering with phase := .waiting, waiting := some m } }

/-- A request in each state of the protocol under each state of MODE_CHANGE; the mode waiting. -/
theorem witness_TransitionIsForced_requests :
    (active.steering.phase = .steady ∧ active.steering.mode = .front ∧ active.steering.waiting = none ∧
        active.interlock.targets.modeChange = .opened ∧ Mode.crab ≠ active.steering.waiting.getD active.steering.mode) ∧
      (setTarget .modeChange .held active).interlock.targets.modeChange = .held ∧
      (setTarget .modeChange .released active).interlock.targets.modeChange = .released ∧
      ((waitingFor .crab active).steering.phase = .waiting ∧ (waitingFor .crab active).steering.waiting = some .crab ∧
        Mode.front ≠ (waitingFor .crab active).steering.waiting.getD .front) ∧
      ((transition (some .crab) active).steering.phase = .transition ∧
        (transition (some .crab) active).steering.waiting = some .crab) := by decide +kernel

/-- The gates all disabled: a CLAIM of CRAB on STEER_MODE begins a transition. -/
def ungated (s : State) : State :=
  let off : Gate := { enabled := false, target := none, terms := [], action := .hold }
  let w : InterlockSettings :=
    { gates := ⟨off, off, off, off, off, off, off, off⟩, latchA := ⟨none, none⟩, latchB := ⟨none, none⟩ }
  { s with
    store := { s.store with working := { s.store.working with interlock := w } }
    interlock := derive w s.interlock.conds }

theorem witness_TransitionIsForced_claim :
    ((ungated active).powered = true ∧ (ungated active).supply.state ≠ .qualify ∧ GatesOk (ungated active) ∧
        modesUnread (ungated active)) ∧
      modeOfCode (3 : Byte).toNat = some .crab ∧ (taken true (ungated active)).authority.entries.steerMode.lockout = none ∧
      Mode.crab ≠ (taken true (ungated active)).authority.commands.mode ∧
      (after (.claim (request [2, 0, 3, 0])) (ungated active)).steering.phase = .transition ∧
      GatesOk (transition (some .crab) (ungated active)) ∧ modesUnread (transition (some .crab) (ungated active)) := by
  refine ⟨⟨by decide +kernel, by decide +kernel, by unfold GatesOk; decide +kernel, ?_⟩, by decide +kernel, by decide +kernel,
    by decide +kernel, by decide +kernel, by unfold GatesOk; decide +kernel, ?_⟩ <;>
  · unfold modesUnread
    refine ⟨by decide +kernel, fun l hl x hx => ?_⟩
    rcases hl with rfl | rfl <;> rcases hx with h | h <;> cases h

/-- A servo frame that completes a transition, with no mode waiting and with one; the same, 1 µs beyond the window; a rear freeze. -/
theorem witness_SteerFrameMovesTheServos_protocol :
    (let s := transition none active
     s.powered = true ∧ s.steering.clock.due s.now = true ∧ s.steering.phase = .transition ∧ s.steering.waiting = none) ∧
      ((transition (some .crab) (ungated active)).steering.waiting = some .crab ∧
        (transition (some .crab) (ungated active)).steering.clock.due active.now = true) ∧
      (let s := setTarget .steerRear .held { active with steering := { active.steering with freeze := some 1700 } }
       s.interlock.targets.steerRear = .held ∧ s.steering.freeze = some 1700) := by decide +kernel

/-- R139, R134: the factory window is 8 µs; a front output 9 µs off, held by a rail that is not good, keeps the transition going. -/
theorem test_steer_frame_completes :
    (after .steerFrame (transition none active)).steering.phase = .steady ∧
      (after .steerFrame (transition none active)).steering.timer = none ∧
      (after .steerFrame (transition none active)).steering.settled = true ∧
      (after .steerFrame (transition (some .crab) (ungated active))).steering.phase = .waiting ∧
      (let s := transition none { active with
        supply := { active.supply with rail := .off }, steering := { active.steering with outF := 1509 } }
       (after .steerFrame s).steering.phase = .transition) := by decide +kernel

def frozenFwd : State :=
  setTarget .driveFwd .held { throttleAt 1 active with drive := { active.drive with fwdFreeze := some 5 } }
def frozenRev : State :=
  setTarget .driveRev .held { throttleAt (-1) active with drive := { active.drive with revFreeze := some (-5) } }

theorem witness_EscFrameDrives :
    (active.powered = true ∧ active.drive.clock.due active.now = true ∧ active.authority.commands.throttle = 0 ∧
        active.supply.state = .active) ∧
      (0 < (throttleAt 1 active).authority.commands.throttle ∧ (throttleAt 1 active).interlock.targets.driveFwd = .opened) ∧
      (setTarget .driveFwd .released (throttleAt 1 active)).interlock.targets.driveFwd = .released ∧
      (0 < frozenFwd.authority.commands.throttle ∧ frozenFwd.interlock.targets.driveFwd = .held ∧ frozenFwd.drive.fwdFreeze = some 5) ∧
      ((throttleAt (-1) active).authority.commands.throttle < 0 ∧ (throttleAt (-1) active).interlock.targets.driveRev = .opened) ∧
      (setTarget .driveRev .released (throttleAt (-1) active)).interlock.targets.driveRev = .released ∧
      (frozenRev.authority.commands.throttle < 0 ∧ frozenRev.interlock.targets.driveRev = .held ∧
        frozenRev.drive.revFreeze = some (-5)) ∧
      (late.drive.clock.due late.now = true ∧ late.supply.state ≠ .active) := by decide +kernel

/-- The manual request on either side of the band, in each state that a row names; a job at the head; a motion and none. -/
theorem witness_WinchFrameTable :
    (active.supply.state = .active ∧ active.winch.clock.due active.now = true ∧ active.winch.queue = [] ∧
        active.winch.running = none ∧ active.radio.bands.winch = 40 ∧ active.winch.st = .idle ∧ active.winch.stowed = false ∧
        active.protection.effective ≠ .cutoff ∧ active.retention.lineCount < active.cfg.winch.maxPayout ∧
        active.interlock.targets.winchHaul = .opened ∧ active.interlock.targets.winchPayout = .opened) ∧
      ((winchAt 41 active).authority.commands.winch = 41 ∧ (winchAt (-41) active).authority.commands.winch = -41 ∧
        (winchAt 40 active).authority.commands.winch = 40 ∧ (winchAt (-40) active).authority.commands.winch = -40) ∧
      ((withWinch .stalled active).winch.st = .stalled ∧ (withWinch .free active).winch.st = .free ∧
        (withWinch .hauling active).winch.st = .hauling ∧ (withWinch .payingOut active).winch.st = .payingOut) ∧
      (active.cfg.winch.maxPayout ≤ (paidOut 8000 active).retention.lineCount ∧
        (withLevel .cutoff active).protection.effective = .cutoff) ∧
      ((setTarget .winchHaul .released active).interlock.targets.winchHaul = .released ∧
        (setTarget .winchPayout .released active).interlock.targets.winchPayout = .released) ∧
      ((queued [haulJob] active).winch.queue = haulJob :: [] ∧ (queued [haulJob] active).winch.running = none) ∧
      ((winchFrameStep (winchAt 41 active)).winch.st.moves = true ∧ (winchFrameStep active).winch.st.moves = false) := by
  decide +kernel

def onHook (s : State) : State := { s with winch := { s.winch with stowed := true } }
def jobOf (k : JobKind) : Job := { haulJob with kind := k }

/-- A job of each kind that ends at its start, and one whose target is not OPEN. -/
theorem witness_WinchFrameTable_starts :
    (let s := onHook (queued [jobOf .haulToStow, haulJob] active)
     s.winch.queue = jobOf .haulToStow :: [haulJob] ∧ s.winch.running = none ∧ s.winch.st = .idle ∧
       s.protection.effective ≠ .cutoff ∧ s.winch.stowed = true ∧ s.interlock.targets.winchHaul = .opened ∧
       (winchFrameStep s).winch.queue = [haulJob]) ∧
      (winchFrameStep (onHook (queued [haulJob, haulJob] active))).winch.queue = [] ∧
      (winchFrameStep (paidOut 8000 (queued [jobOf .payoutBy, haulJob] active))).winch.queue = [] ∧
      (winchFrameStep (paidOut 8000 (queued [freeJob, haulJob] active))).winch.queue = [] ∧
      (winchFrameStep (setTarget .winchHaul .held (queued [haulJob] active))).winch.queue = [haulJob] := by decide +kernel

/-- A HELD target with each freeze, in its direction and against it. -/
def heldAt (haul payout : WinchFreeze) (s : State) : State :=
  let s1 := setTarget .winchHaul .held (setTarget .winchPayout .held s)
  { s1 with winch := { s1.winch with haulFreeze := some haul, payoutFreeze := some payout } }

/-- A running job, one that has not started with the winch moving, free and stalled, and a HELD target with a duty and stopped. -/
theorem witness_WinchFrameTable_held :
    (let s := winchAt 41 (heldAt (.duty 300) .stopped (withWinch .hauling active))
     s.interlock.targets.winchHaul = .held ∧ s.winch.haulFreeze = some (.duty 300) ∧ s.interlock.targets.winchPayout = .held ∧
       s.winch.payoutFreeze = some .stopped ∧ s.winch.queue = [] ∧ s.winch.running = none ∧ (winchFrameStep s).winch.duty = 300) ∧
      (winchFrameStep (winchAt (-41) (heldAt (.duty 300) .stopped active))).winch.st = .idle ∧
      (winchFrameStep (winchAt (-41) (heldAt .stopped (.duty 200) (withWinch .payingOut active)))).winch.duty = 200 ∧
      (winchFrameStep (winchAt (-41) (heldAt (.duty 300) .stopped (withWinch .hauling active)))).winch.st = .stopping := by
  decide +kernel

theorem witness_WinchFrameTable_jobs :
    (let s := winchAt (-500) (running haulJob [] active)
     s.winch.running = some jobRun ∧ s.winch.queue = haulJob :: [] ∧ s.winch.st = .hauling ∧
       s.interlock.targets.winchHaul = .opened ∧ (winchFrameStep s).winch.duty = 500) ∧
      (let s := heldAt (.duty 500) .stopped (running haulJob [] active)
       s.interlock.targets.winchHaul = .held ∧ s.winch.haulFreeze = some (.duty haulJob.duty) ∧
         (winchFrameStep s).winch.st = .hauling) ∧
      (winchFrameStep (running (jobOf .payoutBy) [] active)).winch.st = .payingOut ∧
      (winchFrameStep (running freeJob [] active)).winch.st = .free ∧
      (let s := withWinch .hauling (queued [haulJob] active)
       s.winch.queue = haulJob :: [] ∧ s.winch.running = none ∧ (winchFrameStep s).winch.st = .stopping) ∧
      (withWinch .stalled (queued [haulJob] active)).winch.st = .stalled ∧
      (let s := withWinch .free (queued [haulJob] active)
       s.winch.st = .free ∧ s.winch.running = none ∧ s.protection.effective ≠ .cutoff ∧
         (winchFrameStep s).winch.st = .hauling) ∧
      (winchFrameStep (setTarget .winchHaul .held (withWinch .free (queued [haulJob] active)))).winch.st = .idle := by decide +kernel

theorem witness_WinchFrameRunsTheWinch :
    (active.powered = true ∧ active.winch.clock.due active.now = true ∧ active.winch.queue = []) ∧
      ((withWinch .hauling late).powered = true ∧ (withWinch .hauling late).winch.clock.due late.now = true ∧
        (withWinch .hauling late).supply.state ≠ .active ∧ (withWinch .hauling late).winch.st = .hauling) ∧
      late.winch.st = .idle := by decide +kernel

/-- A frame that starts a haul and one that goes on with it, under the factory gates, of which none releases a winch target. -/
theorem witness_WinchFrameRunsTheWinch_starts :
    (winchAt 500 active).winch.clock.due (winchAt 500 active).now = true ∧
      (∀ g ∈ active.cfg.interlock.gates.toList, g.enabled = true → g.action = .release →
        g.target ≠ some .winchHaul ∧ g.target ≠ some .winchPayout) ∧
      ((winchFrameStep (winchAt 500 active)).winch.st = .hauling ∧ (winchFrameStep (winchAt 500 active)).winch.duty = 500 ∧
        (after .winchFrame (winchAt 500 active)).interlock.conds.winchMoving = true) ∧
      (let s := notifyWinch (withWinch .hauling (winchAt 500 active))
       s.interlock.conds.winchMoving = (winchFrameStep s).winchMoving ∧ (winchFrameStep s).winch.st = .hauling) := by
  decide +kernel

theorem witness_WinchTimersEnd :
    (stopping.winch.st = .stopping ∧ dueAt stopping.winch.dwell stopping.now = true) ∧
      (stalled.winch.st = .stalled ∧ dueAt stalled.winch.neutralRun stalled.now = true) ∧
      ((running freeJob [haulJob] active).winch.running = some jobRun ∧
        (running freeJob [haulJob] active).winch.queue = freeJob :: [haulJob] ∧ jobRun.timeout.due active.now = true ∧
        dueAt jobRun.freeFor active.now = true) := by decide +kernel

/-- HAULING at a set with these runs open since `t0`. -/
def pulling (jobs : List Job) (t0 : Time) (mA : Nat) : State :=
  let s := if jobs = [] then withWinch .hauling active else
    { (queued jobs active) with winch := { (queued jobs active).winch with
        st := .hauling, running := some { jobRun with tension := some t0 } } }
  { s with
    winch := { s.winch with eff := 100, stallRun := some t0 }
    monitor := { s.monitor with latest := { s.monitor.latest with iWinch := mA } } }

/-- The tension run at 200 ms and at 199; the stall run at its time and 1 ms before; 1 mA below the stall current; a set that is due. -/
theorem witness_WinchTimersEnd_runs :
    (winchSet (pulling [{ jobOf .haulToTension with amount := some 3000 }, haulJob] 800 3000)).winch.queue = [haulJob] ∧
      (winchSet (pulling [{ jobOf .haulToTension with amount := some 3000 }, haulJob] 801 3000)).winch.queue.length = 2 ∧
      active.cfg.winch.stallMs = 500 ∧
      (winchSet (pulling [] 500 active.cfg.winch.stallMa)).winch.st = .stalled ∧
      (winchSet (pulling [] 501 active.cfg.winch.stallMa)).winch.st = .hauling ∧
      (winchSet (pulling [] 500 (active.cfg.winch.stallMa - 1))).winch.stallRun = none ∧
      (winchSet (pulling [haulJob, haulJob] 500 active.cfg.winch.stallMa)).winch.queue = [] ∧
      (active.supply.state = .active ∧ active.monitor.clock.due active.now = true ∧ active.retention.identity = some pack3 ∧
        taken16 0 < active.cfg.pack.tripMa) := by decide +kernel

/-- STALLED with a WINCH claim that is due. -/
def stalledUnder : State := claimed .winch (winchClaim (some (timerAt 0 300))) (withWinch .stalled active)

/-- R168: a frame at centre opens the run for 300 ms and keeps an open one; a claim keeps it closed; its expiry and RELEASE open it; an
entry to STALLED opens it. -/
theorem witness_WinchTimersEnd_neutral :
    active.powered = true ∧ wholeFrame (valid 0) ∧
      answeredOk 0x06 (after (.claim (request [3, 0, 0, 0])) (withWinch .stalled active)) ∧
      (after (.radioFrame (valid 0) .clean) (withWinch .stalled active)).winch.neutralRun = some (timerAt 1000 300) ∧
      (after (.radioFrame (valid 0) .clean) stalled).winch.neutralRun = some (timerAt 0 1000) ∧
      (after (.claim (request [3, 0, 0, 0])) (withWinch .stalled active)).winch.neutralRun = none ∧
      ((stalledUnder.authority.entries.get .winch).claim = some (winchClaim (some (timerAt 0 300))) ∧
        dueAt (winchClaim (some (timerAt 0 300))).expiry stalledUnder.now = true) ∧
      (after (.claimExpiry .winch) stalledUnder).winch.neutralRun = some (timerAt 1000 300) ∧
      (answeredOk 0x07 (after (.release (request [3])) stalledUnder) ∧
        (after (.release (request [3])) stalledUnder).winch.neutralRun = some (timerAt 1000 300)) ∧
      answeredOk 0x11 (after (.writeSetting (request [0x00, 0x05, 100, 0])) (withWinch .stalled active)) ∧
      (held.powered = true ∧ held.radio.link = .up ∧ dueAt held.radio.hold held.now = true ∧
        dueAt held.radio.failsafe held.now = true) ∧
      (winchSet (pulling [] 500 active.cfg.winch.stallMa)).winch.neutralRun = some (timerAt 1000 300) := by
  unfold wholeFrame; decide +kernel

/-- A pulse onto max_payout; the last pulse of a job of 2, and one before it; a running job whose motion has not begun or is over. -/
theorem witness_EncoderPulseCounts :
    ((withWinch .payingOut (paidOut 7999 active)).powered = true ∧ 7999 < active.cfg.winch.maxPayout ∧
        active.cfg.winch.maxPayout ≤ 7999 + 1 ∧ (withWinch .payingOut (paidOut 7999 active)).winch.st = .payingOut) ∧
      (let s := running haulJob [] active
       s.winch.running = some jobRun ∧ s.winch.queue = haulJob :: [] ∧ haulJob.kind.motion = s.winch.st ∧
         haulJob.kind = .haulBy ∧ haulJob.amount = some (jobRun.moved + 1)) ∧
      (let j : Job := { haulJob with amount := some 3 }
       let s := notifyWinch (running j [] active)
       s.interlock.conds.winchMoving = s.winchMoving ∧ s.winch.running = some jobRun ∧ s.winch.queue = j :: [] ∧
         j.kind.motion = s.winch.st ∧ j.amount ≠ some (jobRun.moved + 1)) ∧
      (let s := withWinch .stopping (running haulJob [] active)
       s.interlock.conds.winchMoving = s.winchMoving ∧ s.winch.running = some jobRun ∧ s.winch.queue = haulJob :: [] ∧
         haulJob.kind.motion ≠ s.winch.st) ∧
      (let s := paidOut 7999 (running (jobOf .payoutBy) [haulJob] active)
       s.winch.running = some jobRun ∧ s.winch.queue = jobOf .payoutBy :: [haulJob] ∧ s.winch.st = .payingOut ∧
         (jobOf .payoutBy).amount = some (jobRun.moved + 1) ∧ (after .encPulse s).winch.queue = [haulJob]) ∧
      (let j := { jobOf .payoutBy with amount := some 3 }
       (after .encPulse (paidOut 7999 (running j [haulJob] active))).winch.queue = []) ∧
      (after .encPulse (paidOut 7999 (running freeJob [haulJob] active))).winch.queue = [] := by decide +kernel

/-- Paying out with no job, one count short of the limit's last pulse, and at rest with the count at the limit. -/
theorem witness_EncoderPulseCounts_no_job :
    (let s := notifyWinch (withWinch .payingOut (paidOut 7998 active))
     s.winch.running = none ∧ ¬(7998 < s.cfg.winch.maxPayout ∧ s.cfg.winch.maxPayout ≤ 7998 + 1) ∧
       s.interlock.conds.winchMoving = s.winchMoving ∧ s.winchMoving = true ∧ (after .encPulse s).retention.lineCount = 7999) ∧
      (let s := paidOut 8000 active
       s.winch.running = none ∧ ¬(8000 < s.cfg.winch.maxPayout) ∧ s.interlock.conds.winchMoving = s.winchMoving) := by
  decide +kernel

def hookedParked : State := { hooked with supply := { hooked.supply with state := .park, hookLatch := true } }

theorem witness_HookIsDebounced :
    (dueAt hooked.winch.hookRun hooked.now = true ∧ hooked.pins.hook ≠ hooked.winch.stowed ∧ hooked.supply.state ≠ .park) ∧
      (dueAt active.winch.hookRun active.now = true ∧ active.pins.hook = active.winch.stowed) ∧
      (let s := running haulJob [haulJob] hooked
       dueAt s.winch.hookRun s.now = true ∧ s.pins.hook = true ∧ s.winch.st = .hauling ∧ s.winch.running = some jobRun ∧
         s.winch.queue = haulJob :: [haulJob] ∧ haulJob.kind.hauls = true ∧ s.winch.stowed = false) ∧
      (dueAt hookedParked.winch.hookRun hookedParked.now = true ∧ hookedParked.supply.state = .park ∧
        hookedParked.supply.hookLatch = true) := by decide +kernel

def tippedParked : State := { tipped with supply := { tipped.supply with state := .park, tiltLatch := true } }

theorem witness_TiltIsDebouncedAndLocateArms :
    (dueAt tipped.lights.tiltRun tipped.now = true ∧ tipped.pins.tilt ≠ tipped.lights.tilted ∧ tipped.supply.state ≠ .park) ∧
      (dueAt active.lights.tiltRun active.now = true ∧ active.pins.tilt = active.lights.tilted) ∧
      (dueAt tippedParked.lights.tiltRun tippedParked.now = true ∧ tippedParked.supply.state = .park ∧
        tippedParked.supply.tiltLatch = true) ∧
      (dueAt arming.lights.tiltArm arming.now = true ∧ dueAt arming.lights.linkArm arming.now = true ∧
        arming.lights.locate = false) ∧
      { arming with lights := { arming.lights with locate := true } }.lights.locate = true := by decide +kernel

theorem witness_PatternsStepOn :
    (dueAt (active.lights.chans.get 3).timer active.now = true ∧ (active.lights.chans.get 3).freeze = none ∧
        (active.lights.chans.get 3).blinks = false) ∧
      blinking.lights.blinker = some { step := 0, timer := timerAt 0 500 } ∧ (timerAt 0 500).due blinking.now = true := by
  decide +kernel

/-- Every channel of class SCENE, shown or frozen. -/
def sceneLit (f : Option LightFreeze) : State :=
  { active with
    store := { active.store with working := { active.store.working with lights := { active.store.working.lights with
      channels := active.store.working.lights.channels.map (fun e => { e with cls := .scene }) } } }
    lights := { active.lights with chans := active.lights.chans.map (fun c => { c with freeze := f }) } }

/-- A frozen step that is due; the hazard on and off; SCENE_LIGHTS in each state, entered from each other one. -/
theorem witness_PatternsStepOn_events :
    (let s := sceneLit (some (.shown .scene 0 patternSteady 0))
     dueAt (s.lights.chans.get 3).timer s.now = true ∧
       (s.lights.chans.get 3).freeze = some (.shown .scene 0 patternSteady 0)) ∧
      (hazardActive active = false ∧ active.lights.turnL = false ∧ active.lights.turnR = false) ∧
      hazardActive { active with lights := { active.lights with hazardAssist := true } } = true ∧
      ((sceneLit none).cfg.lights.channels.get 0).cls = .scene ∧ TargetState.held ≠ .opened ∧ TargetState.released ≠ .opened ∧
      (setTarget .sceneLights .held (sceneLit none)).interlock.targets.sceneLights = .held ∧
      ((lightsRefresh (lightsTarget .opened .held (setTarget .sceneLights .held (sceneLit none)))).lights.chans.get 3).freeze =
        some (.shown .scene ((sceneLit none).lights.chans.get 3).pattern
          ((sceneLit none).cfg.lights.patternOf ((sceneLit none).lights.chans.get 3).pattern) 0) := by decide +kernel

/-- Right after reset nothing is due; a timer of 1,000 ms that began at 1 is 1 ms short of its time. -/
theorem witness_EventsNotDueChangeNothing :
    (let s := State.reset
     dueAt s.monitor.tripHold s.now = false ∧ dueAt s.supply.railWait s.now = false ∧ dueAt s.supply.idle s.now = false ∧
       dueAt s.radio.hold s.now = false ∧ dueAt s.radio.failsafe s.now = false ∧ dueAt s.steering.timer s.now = false ∧
       dueAt s.winch.dwell s.now = false ∧ dueAt s.winch.neutralRun s.now = false ∧ dueAt s.winch.hookRun s.now = false ∧
       s.winch.running = none ∧ dueAt s.lights.tiltRun s.now = false ∧ dueAt s.lights.tiltArm s.now = false ∧
       dueAt s.lights.linkArm s.now = false ∧ dueAt (s.lights.chans.get 0).timer s.now = false ∧ s.lights.blinker = none ∧
       dueAt s.assist.window s.now = false ∧ s.steering.clock.due s.now = false ∧ s.drive.clock.due s.now = false ∧
       s.winch.clock.due s.now = false ∧ s.supply.backupClock.due s.now = false ∧ s.monitor.clock.due s.now = false) ∧
      dueAt (some (timerAt 1 1000)) late.now = false := by decide +kernel

/-- A job, trip-LIMP, a limp-home period, a claim, a lockout, the blinker and a commit, each 1 ms short of its time. -/
theorem witness_EventsNotDueChangeNothing_running :
    ((timerAt 1 1000).due late.now = false ∧ dueAt (some (timerAt 1 1000)) late.now = false) ∧
      (let r : JobRun := { moved := 0, timeout := timerAt 1 1000, freeFor := some (timerAt 1 1000), tension := none }
       let s : State := { active with winch := { active.winch with running := some r } }
       s.winch.running = some r ∧ r.timeout.due s.now = false ∧ dueAt r.freeFor s.now = false) ∧
      (let b : Blinker := { step := 0, timer := timerAt 1 1000 }
       let s : State := { active with lights := { active.lights with blinker := some b } }
       s.lights.blinker = some b ∧ b.timer.due s.now = false) ∧
      (let l : Lockout := { began := 1, ends := some (timerAt 1 1000), run := some (timerAt 1 1000) }
       let s := setLockout .lights (some l) active
       (s.authority.entries.get .lights).lockout = some l ∧ dueAt l.run s.now = false ∧ dueAt l.ends s.now = false) ∧
      (withPack { pack3 with tripLimp := some (timerAt 1 1000) } active).retention.identity =
        some { pack3 with tripLimp := some (timerAt 1 1000) } ∧
      (active.retention.identity = some pack3 ∧ dueAt pack3.tripLimp active.now = false ∧
        dueAt pack3.limpPeriod active.now = false ∧ late.retention.identity = none) ∧
      ((active.authority.entries.get .steer).claim = none ∧ (active.authority.entries.get .steer).lockout = none) ∧
      ((claimed .winch (winchClaim (some (timerAt 1 1000))) active).authority.entries.get .winch).claim =
        some (winchClaim (some (timerAt 1 1000))) ∧
      (writingFresh.store.writing = some (late.cfg, timerAt 941 60) ∧ (timerAt 941 60).due writingFresh.now = false) := by
  decide +kernel

/-! ## Darkness by a low ratio (R190) -/

/-- A ROCK channel at full step level, dark by an event that is over, holding this ratio while 256 is published. -/
def rockHolding (ratio : Nat) : State :=
  { active with
    authority := { active.authority with commands := { active.authority.commands with scene := 2 } }
    lights := { active.lights with
      chans := active.lights.chans.set 6
        { source := some .scene, pattern := 0, step := 0, timer := some (timerAt 900 100), ratio := ratio, freeze := none,
          dark := true, level := 0 } } }

/-- Below 64 it stays dark until its own pattern step, which takes the ratio; at 64 it lights at once. -/
theorem test_low_ratio_stays_dark :
    ((lightsRefresh (rockHolding 63)).lights.chans.get 6).level = 0 ∧
      ((lightsRefresh (rockHolding 63)).lights.chans.get 6).ratio = 63 ∧
      ((after (.patternStep 6) (lightsRefresh (rockHolding 63))).lights.chans.get 6).level = 255 ∧
      ((lightsRefresh (rockHolding 64)).lights.chans.get 6).level = 255 := by decide +kernel

end Sys2Proof.Tests
end

