-- ==== Sys2Proof/Proofs/Allotment.lean ====
section
/-! SUPPORT. The arithmetic of an allotment (chapter 2): what a pass over the classes gives, what two passes give, and so the
grants, the headroom and the demands (R30 to R39); and with them O13. -/
namespace Sys2Proof.Machine

/-! ## Passes over a list of classes -/

/-- Two lists of one length, each entry of the first at most the entry of the second in its place. -/
inductive EachAtMost : List Nat → List Nat → Prop where
  | nil : EachAtMost [] []
  | cons {a b : Nat} {as bs : List Nat} : a ≤ b → EachAtMost as bs → EachAtMost (a :: as) (b :: bs)

theorem eachAtMost_cons {a b : Nat} {as bs : List Nat} :
    EachAtMost (a :: as) (b :: bs) ↔ a ≤ b ∧ EachAtMost as bs := by
  constructor
  · intro h
    cases h with
    | cons hle hrest => exact ⟨hle, hrest⟩
  · rintro ⟨hle, hrest⟩
    exact .cons hle hrest

theorem EachAtMost.refl (l : List Nat) : EachAtMost l l := by
  induction l with
  | nil => exact .nil
  | cons a as ih => exact .cons (Nat.le_refl a) ih

/-- A pass hands out all that it may give, as far as it goes. -/
theorem passInOrder_sum (h : Nat) (l : List Nat) : (passInOrder h l).sum = min l.sum h := by
  induction l generalizing h with
  | nil => exact (Nat.zero_min h).symm
  | cons may rest ih =>
    simp only [passInOrder, List.sum_cons, ih]
    change min may h + min rest.sum (h - min may h) = _
    omega

/-- A pass gives no class more than its cap, so no more than anything above the cap. -/
theorem passInOrder_le {caps wants : List Nat} (hc : EachAtMost caps wants) (h : Nat) :
    EachAtMost (passInOrder h caps) wants := by
  induction hc generalizing h with
  | nil => exact .nil
  | cons hle _ ih => exact .cons (Nat.le_trans (Nat.min_le_left _ _) hle) (ih _)

/-- What remains wanted after a pass, together with what the pass gave. -/
theorem sum_zipWith_sub {given wants : List Nat} (h : EachAtMost given wants) :
    (List.zipWith (· - ·) wants given).sum + given.sum = wants.sum := by
  induction h with
  | nil => rfl
  | cons hle _ ih =>
    simp only [List.zipWith_cons_cons, List.sum_cons]
    omega

section
variable {given wants added : List Nat} (h : EachAtMost given wants)
  (k : EachAtMost added (List.zipWith (· - ·) wants given))
include h k

/-- What a second pass adds to a first stays within the wants. -/
theorem zipWith_add_le : EachAtMost (List.zipWith (· + ·) given added) wants := by
  induction h generalizing added with
  | nil => cases k; exact .nil
  | cons hle _ ih =>
    cases k with
    | cons hadd hrest => exact .cons (by dsimp only at hadd ⊢; omega) (ih hrest)

/-- Both passes together give what each gives. -/
theorem sum_zipWith_add : (List.zipWith (· + ·) given added).sum = given.sum + added.sum := by
  induction h generalizing added with
  | nil => cases k; rfl
  | cons hle _ ih =>
    cases k with
    | cons hadd hrest =>
      simp only [List.zipWith_cons_cons, List.sum_cons, ih hrest]
      omega
end

/-! ## Two passes (R36, R37) -/

/-- A pass up to `caps` and a pass up to `wants` from what the first leaves of `h`. -/
def twoPasses (h : Nat) (caps wants : List Nat) : List Nat :=
  let first := passInOrder h caps
  List.zipWith (· + ·) first (passInOrder (h - first.sum) (List.zipWith (· - ·) wants first))

section
variable {caps wants : List Nat} (hc : EachAtMost caps wants)
include hc

/-- Two passes give no class more than it wants. -/
theorem twoPasses_le (h : Nat) : EachAtMost (twoPasses h caps wants) wants :=
  zipWith_add_le (passInOrder_le hc h) (passInOrder_le (.refl _) _)

/-- Two passes give together all that is wanted, as far as `h` goes. -/
theorem twoPasses_sum (h : Nat) : (twoPasses h caps wants).sum = min wants.sum h := by
  have hfirst := passInOrder_le hc h
  have hwant := sum_zipWith_sub hfirst
  have hgiven := passInOrder_sum h caps
  rw [twoPasses, sum_zipWith_add hfirst (passInOrder_le (.refl _) _), passInOrder_sum (h - _)]
  omega
end

/-! ## The grants (R36 to R39) -/

/-- The five values in class order. -/
def PerClass.inOrder {α : Type} (c : PerClass α) : List α := [c.steer, c.signal, c.drive, c.winch, c.scene]

/-- What the classes may take in class order, DRIVE and WINCH skipped while the trip condition is true. -/
def PerClass.mayTake (c : PerClass Nat) (trip : Bool) : List Nat :=
  let skips (n : Nat) : Nat := if trip = true then 0 else n
  [c.steer, c.signal, skips c.drive, skips c.winch, c.scene]

/-- Each class's demand up to its reserve. -/
def reserved (d r : PerClass Nat) : PerClass Nat :=
  { steer := Nat.min d.steer r.steer, signal := Nat.min d.signal r.signal, drive := Nat.min d.drive r.drive,
    winch := Nat.min d.winch r.winch, scene := Nat.min d.scene r.scene }

theorem reserved_mayTake_le (d r : PerClass Nat) (trip : Bool) :
    EachAtMost ((reserved d r).mayTake trip) (d.mayTake trip) := by
  have hskip (a b : Nat) : (if trip = true then 0 else Nat.min a b) ≤ if trip = true then 0 else a := by
    split
    · exact Nat.le_refl 0
    · exact Nat.min_le_left a b
  exact .cons (Nat.min_le_left _ _) (.cons (Nat.min_le_left _ _) (.cons (hskip _ _) (.cons (hskip _ _)
    (.cons (Nat.min_le_left _ _) .nil))))

/-- The grants are two passes, up to the reserves and up to the demands. -/
theorem grantsOf_inOrder (d r : PerClass Nat) (trip : Bool) (h : Nat) :
    (grantsOf d r trip h).inOrder = twoPasses h ((reserved d r).mayTake trip) (d.mayTake trip) := by
  cases trip <;>
    simp [grantsOf, firstPass, secondPass, PerClass.inOrder, twoPasses, PerClass.mayTake, reserved, passInOrder,
      Nat.min_assoc, Nat.sub_sub, Nat.add_assoc]

theorem grantsOf_le_mayTake (d r : PerClass Nat) (trip : Bool) (h : Nat) :
    EachAtMost (grantsOf d r trip h).inOrder (d.mayTake trip) := by
  rw [grantsOf_inOrder]
  exact twoPasses_le (reserved_mayTake_le d r trip) h

theorem grantsOf_sum (d r : PerClass Nat) (trip : Bool) (h : Nat) :
    (grantsOf d r trip h).inOrder.sum = min (d.mayTake trip).sum h := by
  rw [grantsOf_inOrder]
  exact twoPasses_sum (reserved_mayTake_le d r trip) h

/-- R39: the grants sum to no more than the headroom. -/
theorem grantsOf_within (d r : PerClass Nat) (trip : Bool) (h : Nat) :
    let g := grantsOf d r trip h
    g.steer + g.signal + g.drive + g.winch + g.scene ≤ h := by
  have hsum := grantsOf_sum d r trip h
  simp only [PerClass.inOrder, List.sum_cons, List.sum_nil] at hsum
  dsimp only
  omega

/-- R39: no grant exceeds its class demand. -/
theorem grantsOf_le (d r : PerClass Nat) (trip : Bool) (h : Nat) :
    let g := grantsOf d r trip h
    g.steer ≤ d.steer ∧ g.signal ≤ d.signal ∧ g.drive ≤ d.drive ∧ g.winch ≤ d.winch ∧ g.scene ≤ d.scene := by
  have hskip {n g : Nat} (hg : g ≤ if trip = true then 0 else n) : g ≤ n := by
    split at hg <;> omega
  have hle := grantsOf_le_mayTake d r trip h
  simp only [PerClass.inOrder, PerClass.mayTake, eachAtMost_cons] at hle
  obtain ⟨hst, hsi, hdr, hwi, hsc, -⟩ := hle
  exact ⟨hst, hsi, hskip hdr, hskip hwi, hsc⟩

/-- R38: while the trip condition is true, DRIVE and WINCH are granted nothing. -/
theorem grantsOf_trip (d r : PerClass Nat) (h : Nat) : (grantsOf d r true h).drive = 0 ∧ (grantsOf d r true h).winch = 0 :=
  ⟨rfl, rfl⟩

/-- Without a trip the grants together are the demands, as far as the headroom goes. -/
theorem grantsOf_total (d r : PerClass Nat) (h : Nat) :
    let g := grantsOf d r false h
    g.steer + g.signal + g.drive + g.winch + g.scene = min (d.steer + d.signal + d.drive + d.winch + d.scene) h := by
  simpa [PerClass.inOrder, PerClass.mayTake, Nat.add_assoc] using grantsOf_sum d r false h

/-- A headroom that covers the demands is granted to every class in full. -/
theorem grantsOf_covered {d : PerClass Nat} {h : Nat} (r : PerClass Nat)
    (hd : d.steer + d.signal + d.drive + d.winch + d.scene ≤ h) : grantsOf d r false h = d := by
  have hsum := grantsOf_total d r h
  obtain ⟨hst, hsi, hdr, hwi, hsc⟩ := grantsOf_le d r false h
  dsimp only at hsum
  generalize grantsOf d r false h = g at *
  rcases g with ⟨a, b, c, e, f⟩
  rcases d with ⟨a', b', c', e', f'⟩
  dsimp only at *
  rw [PerClass.mk.injEq]
  omega

/-! ## The floor, the headroom and the demands (R29 to R35) -/

theorem headroomOf_below {vComp vFloor : Nat} (h : vComp ≤ vFloor) (ceiling r : Nat) : headroomOf ceiling vComp vFloor r = 0 :=
  if_pos h

/-- Above the floor the headroom is the quotient of R30, up to the ceiling. -/
theorem headroomOf_above {vComp vFloor : Nat} (h : vFloor < vComp) (ceiling r : Nat) :
    headroomOf ceiling vComp vFloor r = min ((vComp - vFloor) * 1000 / r) ceiling := by
  unfold headroomOf
  rw [if_neg (Nat.not_le.mpr h), Nat.min_def]
  dsimp only
  split <;> split <;> omega

/-- R31: a demand is limited to 65,535 mA. -/
theorem takenDemand_eq_min (d : Nat) : takenDemand d = Nat.min 65535 d := by
  change takenDemand d = min 65535 d
  unfold takenDemand
  split <;> omega

/-- R32: the STEER demand is in no case overridden. -/
theorem demandsOf_steer (s : State) (supply : SupplyState) (level : Level) :
    (demandsOf s supply level).steer = takenDemand (s.monitor.servo.sum / s.monitor.servo.length) := by
  cases supply <;> cases level <;> rfl

theorem demandsOf_qualify_signal (s : State) (level : Level) : (demandsOf s .qualify level).signal = 0 := rfl

/-- R35: in PARK, and in ACTIVE at CUTOFF, SIGNAL demands what locate shows alone. -/
theorem demandsOf_located {supply : SupplyState} {level : Level} (h : supply = .park ∨ supply = .active ∧ level = .cutoff)
    (s : State) : (demandsOf s supply level).signal = takenDemand s.lights.locatePart := by
  rcases h with rfl | ⟨rfl, rfl⟩ <;> rfl

/-- R33, R34: in ACTIVE above CUTOFF the reports count, SCENE's at NORMAL alone. -/
theorem demandsOf_active {level : Level} (h : level ≠ .cutoff) (s : State) :
    let d := demandsOf s .active level
    d.signal = takenDemand s.lights.signalDemand ∧ d.drive = takenDemand s.drive.demand ∧
      d.winch = takenDemand s.winch.demand ∧
      d.scene = if level = .normal then takenDemand s.lights.sceneDemand else 0 := by
  cases level
  case cutoff => exact absurd rfl h
  all_goals exact ⟨rfl, rfl, rfl, rfl⟩

/-- R35: outside ACTIVE and at CUTOFF nothing is demanded for DRIVE, WINCH and SCENE. -/
theorem demandsOf_shed {supply : SupplyState} {level : Level} (h : supply ≠ .active ∨ level = .cutoff) (s : State) :
    let d := demandsOf s supply level
    d.drive = 0 ∧ d.winch = 0 ∧ d.scene = 0 := by
  cases supply
  case active =>
    obtain rfl : level = .cutoff := h.resolve_left (fun hne => hne rfl)
    exact ⟨rfl, rfl, rfl⟩
  all_goals exact ⟨rfl, rfl, rfl⟩

/-- Settles O13: the grants are two passes in order, and a pass hands out what it may as far as it goes. -/
theorem allotmentArithmetic : Obligations.AllotmentArithmetic := by
  refine ⟨fun w cells => ⟨rfl, rfl, rfl, rfl⟩, ?headroom, ?demands, ?passes, ?bounds, fun d g trip => ⟨rfl, rfl, rfl, rfl, rfl⟩⟩
  case headroom =>
    intro ceiling vComp vFloor r _
    refine ⟨fun h => headroomOf_below h ceiling r, fun h hle => ?_, fun h hlt => ?_⟩
    · rw [headroomOf_above h, Nat.min_eq_left hle]
    · rw [headroomOf_above h, Nat.min_eq_right (Nat.le_of_lt hlt)]
  case demands =>
    intro s supply level
    simp only [← takenDemand_eq_min]
    refine ⟨demandsOf_steer s supply level, ?_, fun h => demandsOf_located h s, ?_, fun h => demandsOf_shed h s⟩
    · rintro rfl
      exact demandsOf_qualify_signal s level
    · rintro rfl hl
      exact demandsOf_active hl s
  case passes => exact grantsOf_inOrder
  case bounds =>
    intro d r trip h
    refine ⟨grantsOf_within d r trip h, grantsOf_le d r trip h, ?_, ?_, ?_⟩
    · rintro rfl
      exact grantsOf_trip d r h
    · rintro rfl hd
      exact grantsOf_covered r hd
    · rintro rfl hd
      exact (grantsOf_total d r h).trans (Nat.min_eq_right (Nat.le_of_lt hd))

end Sys2Proof.Machine
end

