-- ==== Sys2Proof/Proofs/PublishedFrame.lean ====
section
/-! SUPPORT. The operations that publish no allotment: one lemma per shared operation, that it leaves the published record as it
was. Evaluations and the owners of the targets have it from `Quiet`. -/
namespace Sys2Proof.Machine

/-! ## What publishes nothing: evaluations and the owners of the targets -/

theorem Quiet.budget {s t : State} (h : Quiet s t) : t.budget = s.budget := still_budget h.still

@[simp] theorem notify_budget (ch : Changes) (s : State) : (notify ch s).budget = s.budget := (quiet_notify ch s).budget
@[simp] theorem notifyWinch_budget (s : State) : (notifyWinch s).budget = s.budget := (quiet_notifyWinch s).budget
@[simp] theorem notifySteering_budget (s : State) : (notifySteering s).budget = s.budget := (quiet_notifySteering s).budget
@[simp] theorem reevaluate_budget (k : Conds) (s : State) : (reevaluate k s).budget = s.budget := (quiet_reevaluate k s).budget
@[simp] theorem winchEnter_budget (st : WinchState) (u : Nat) (s : State) : (winchEnter st u s).budget = s.budget :=
  (quiet_winchEnter st u s).budget
@[simp] theorem winchStop_budget (s : State) : (winchStop s).budget = s.budget := (quiet_winchStop s).budget
@[simp] theorem endJob_budget (o : JobOutcome) (s : State) : (endJob o s).budget = s.budget := (quiet_endJob o s).budget
@[simp] theorem revokeJobs_budget (s : State) : (revokeJobs s).budget = s.budget := (quiet_revokeJobs s).budget
@[simp] theorem winchCutoff_budget (s : State) : (winchCutoff s).budget = s.budget := (quiet_winchCutoff s).budget
@[simp] theorem winchPark_budget (s : State) : (winchPark s).budget = s.budget := (quiet_winchPark s).budget
@[simp] theorem clearStall_budget (s : State) : (clearStall s).budget = s.budget := (quiet_clearStall s).budget
@[simp] theorem toggleFree_budget (s : State) : (toggleFree s).budget = s.budget := (quiet_toggleFree s).budget
@[simp] theorem setPhase_budget (p : Phase) (s : State) : (setPhase p s).budget = s.budget := (quiet_setPhase p s).budget
@[simp] theorem modeRequest_budget (m : Mode) (s : State) : (modeRequest m s).budget = s.budget := (quiet_modeRequest m s).budget
@[simp] theorem handMode_budget (m : Mode) (s : State) : (handMode m s).budget = s.budget := (quiet_handMode m s).budget
@[simp] theorem forceTransition_budget (s : State) : (forceTransition s).budget = s.budget := (quiet_forceTransition s).budget
@[simp] theorem steerPark_budget (s : State) : (steerPark s).budget = s.budget := (quiet_steerPark s).budget

theorem foldl_budget {α : Type} {f : State → α → State} (h : ∀ s a, (f s a).budget = s.budget) (l : List α) (s : State) :
    (l.foldl f s).budget = s.budget := by
  induction l generalizing s with
  | nil => rfl
  | cons a l ih => exact (ih _).trans (h s a)

/-! ## The Authority Table -/

@[simp] theorem recompute_budget (s : State) : (recompute s).budget = s.budget := by simp [recompute]

@[simp] theorem endClaim_budget (reason : ClaimEnd) (f : Fn) (s : State) : (endClaim reason f s).budget = s.budget := by
  unfold endClaim; dsimp only; split <;> simp

@[simp] theorem revokeIfEnded_budget (before s : State) : (revokeIfEnded before s).budget = s.budget := by
  unfold revokeIfEnded; split <;> simp

@[simp] theorem linkEnds_budget (s : State) : (linkEnds s).budget = s.budget := by
  unfold linkEnds; split <;> simp

@[simp] theorem judgeTakeover_budget (before : DriverValues) (f : Fn) (s : State) :
    (judgeTakeover before f s).budget = s.budget := by
  unfold judgeTakeover
  split
  · rfl
  · split <;> simp

@[simp] theorem judgeLockoutRun_budget (f : Fn) (s : State) : (judgeLockoutRun f s).budget = s.budget := by
  unfold judgeLockoutRun
  split
  · rfl
  · split
    · split <;> simp
    · simp

@[simp] theorem handOver_budget (before : DriverValues) (s : State) : (handOver before s).budget = s.budget := by
  simp only [handOver, recompute_budget, revokeIfEnded_budget]
  rw [foldl_budget (fun s f => judgeLockoutRun_budget f s), foldl_budget (fun s f => judgeTakeover_budget before f s),
    linkEnds_budget]

@[simp] theorem endClaimAlone_budget (reason : ClaimEnd) (f : Fn) (s : State) :
    (endClaimAlone reason f s).budget = s.budget := by
  simp [endClaimAlone]

@[simp] theorem claimForJob_budget (s : State) : (claimForJob s).budget = s.budget := by
  unfold claimForJob; split <;> simp

/-! ## The locate latch and the levels -/

@[simp] theorem armLocate_budget (cause : LocateCause) (s : State) : (armLocate cause s).budget = s.budget := by
  unfold armLocate; split <;> simp

@[simp] theorem acknowledgeLocate_budget (o : Origin) (s : State) : (acknowledgeLocate o s).budget = s.budget := by
  simp [acknowledgeLocate]

@[simp] theorem takeLevel_budget (s : State) : (takeLevel s).budget = s.budget := by
  unfold takeLevel; dsimp only; split <;> simp

@[simp] theorem levelChanged_budget (s : State) : (levelChanged s).budget = s.budget := by
  unfold levelChanged; dsimp only; split <;> simp

@[simp] theorem recomputeLevel_budget (before : Components) (floor limpHome : Bool) (s : State) :
    (recomputeLevel before floor limpHome s).budget = s.budget := by
  unfold recomputeLevel; dsimp only; split <;> simp

@[simp] theorem dropTo_budget (target : Level) (fires : Bool) (s : State) : (dropTo target fires s).budget = s.budget := by
  unfold dropTo; split <;> simp

@[simp] theorem fallingTimers_budget (s : State) : (fallingTimers s).budget = s.budget := by simp [fallingTimers]

@[simp] theorem risingTimer_budget (s : State) : (risingTimer s).budget = s.budget := by
  unfold risingTimer
  split
  · simp
  · split
    · simp
    · split
      · simp
      · split <;> simp

@[simp] theorem floorTimer_budget (s : State) : (floorTimer s).budget = s.budget := by
  unfold floorTimer; dsimp only; split <;> simp

@[simp] theorem modeTakesEffect_budget (s : State) : (modeTakesEffect s).budget = s.budget := by
  unfold modeTakesEffect
  dsimp only
  split
  · rfl
  · split <;> simp

@[simp] theorem protectionSet_budget (before : Components) (s : State) : (protectionSet before s).budget = s.budget := by
  simp only [protectionSet, recomputeLevel_budget, deriveEnergyLevel_budget, floorTimer_budget]
  split <;> simp

@[simp] theorem grantLimpHome_budget (o : Origin) (s : State) : (grantLimpHome o s).budget = s.budget := by
  simp [grantLimpHome]

@[simp] theorem endLimpHome_budget (s : State) : (endLimpHome s).budget = s.budget := by simp [endLimpHome]

@[simp] theorem endTripLimp_budget (s : State) : (endTripLimp s).budget = s.budget := by simp [endTripLimp]

/-! ## The Pack Monitor -/

@[simp] theorem runEstimator_budget (v i : Nat) (s : State) : (runEstimator v i s).budget = s.budget := by
  unfold runEstimator
  split
  · rfl
  · split <;> simp

@[simp] theorem tripDetector_budget (i : Nat) (s : State) : (tripDetector i s).budget = s.budget := by
  unfold tripDetector
  split
  · rfl
  · split
    · rfl
    · split <;> simp [findTrip]

@[simp] theorem monitorSet_budget (v i sv w : Nat) (s : State) : (monitorSet v i sv w s).budget = s.budget := by
  simp [monitorSet]

/-! ## The Supply Controller -/

@[simp] theorem railOn_budget (s : State) : (railOn s).budget = s.budget := by
  unfold railOn; split <;> simp

@[simp] theorem srvPgChanged_budget (good : Bool) (s : State) : (srvPgChanged good s).budget = s.budget := by
  unfold srvPgChanged
  dsimp only
  split
  · rfl
  · split <;> simp
  · split <;> simp
  · split <;> simp

@[simp] theorem railWaitExpired_budget (s : State) : (railWaitExpired s).budget = s.budget := by simp [railWaitExpired]

@[simp] theorem backupMeasured_budget (mv : Nat) (s : State) : (backupMeasured mv s).budget = s.budget := by
  unfold backupMeasured; dsimp only; split <;> simp

@[simp] theorem qualifyFails_budget (reason : QualifyReason) (v : Nat) (s : State) :
    (qualifyFails reason v s).budget = s.budget := by
  unfold qualifyFails; dsimp only; split <;> simp

@[simp] theorem backupAtPass_budget (s : State) : (backupAtPass s).budget = s.budget := by
  unfold backupAtPass; dsimp only; split <;> simp

@[simp] theorem levelAtPass_budget (s : State) : (levelAtPass s).budget = s.budget := by
  unfold levelAtPass; dsimp only; split <;> simp

@[simp] theorem steerEnterActive_budget (s : State) : (steerEnterActive s).budget = s.budget := by simp [steerEnterActive]

@[simp] theorem armAtPass_budget (s : State) : (armAtPass s).budget = s.budget := by
  unfold armAtPass; split <;> simp

@[simp] theorem qualifyPasses_budget (v : Nat) (s : State) : (qualifyPasses v s).budget = s.budget := by
  simp [qualifyPasses]

@[simp] theorem qualifySet_budget (v : Nat) (s : State) : (qualifySet v s).budget = s.budget := by
  unfold qualifySet; split <;> simp

@[simp] theorem enterPark_budget (src : ParkSource) (s : State) : (enterPark src s).budget = s.budget := by
  simp [enterPark, supplyPark, foldl_budget (fun s f => endClaim_budget .park f s)]

@[simp] theorem wake_budget (src : WakeSource) (s : State) : (wake src s).budget = s.budget := by
  simp [wake, supplyWake]

@[simp] theorem idleExpired_budget (s : State) : (idleExpired s).budget = s.budget := by
  unfold idleExpired; split <;> simp

@[simp] theorem hookWakes_budget (v : Bool) (s : State) : (hookWakes v s).budget = s.budget := by
  unfold hookWakes
  split
  · split
    · split <;> simp
    · rfl
  · rfl

@[simp] theorem tiltWakes_budget (v : Bool) (s : State) : (tiltWakes v s).budget = s.budget := by
  unfold tiltWakes
  split
  · split
    · split <;> simp
    · rfl
  · rfl

/-! ## The Radio Link Port -/

@[simp] theorem changeLink_budget (new : LinkState) (s : State) : (changeLink new s).budget = s.budget := by
  unfold changeLink; dsimp only; split <;> simp

@[simp] theorem restartSilence_budget (s : State) : (restartSilence s).budget = s.budget := by
  unfold restartSilence; split <;> rfl

@[simp] theorem valuesAfterFrame_budget (before : LinkState) (fr : Frame) (s : State) :
    (valuesAfterFrame before fr s).budget = s.budget := by
  unfold valuesAfterFrame
  split
  case h_3 => split <;> simp
  all_goals simp

@[simp] theorem frameActivity_budget (before : DriverValues) (s : State) : (frameActivity before s).budget = s.budget := by
  unfold frameActivity
  split
  · split <;> simp
  · split <;> simp
  · rfl
  · rfl

@[simp] theorem gestureAction_budget (a : GestureAction) (s : State) : (gestureAction a s).budget = s.budget := by
  cases a <;> dsimp only [gestureAction]
  case limpHome => split <;> simp
  case ackLocate => split <;> simp
  case winchFree => simp
  case winchClear => split <;> simp
  case park => split <;> simp
  case modeNext => simp [modeNext]
  case hazardToggle => simp [toggleHazard]

@[simp] theorem fireGesture_budget (i : Fin 4) (a : GestureAction) (s : State) : (fireGesture i a s).budget = s.budget := by
  unfold fireGesture; split <;> simp

@[simp] theorem judgeGesture_budget (fr : Frame) (i : Fin 4) (s : State) : (judgeGesture fr i s).budget = s.budget := by
  unfold judgeGesture
  dsimp only
  split
  · split <;> simp
  · rfl

@[simp] theorem openSlot_budget (fr : Frame) (s : State) : (openSlot fr s).budget = s.budget := by
  unfold openSlot; split <;> rfl

@[simp] theorem takeFrame_budget (fr : Frame) (s : State) : (takeFrame fr s).budget = s.budget := by
  simp [takeFrame, judgeGestures, frameValues]

@[simp] theorem holdExpired_budget (s : State) : (holdExpired s).budget = s.budget := by
  unfold holdExpired; dsimp only; split <;> simp

@[simp] theorem failsafeExpired_budget (s : State) : (failsafeExpired s).budget = s.budget := by simp [failsafeExpired]

@[simp] theorem replySlot_budget (idle : Bool) (count : Nat) (s : State) : (replySlot idle count s).budget = s.budget := by
  unfold replySlot; split <;> rfl

/-! ## The Settings Store -/

@[simp] theorem restartBlinker_budget (s : State) : (restartBlinker s).budget = s.budget := by
  unfold restartBlinker; split <;> simp

@[simp] theorem patternWritten_budget (p : Fin 8) (s : State) : (patternWritten p s).budget = s.budget := by
  unfold patternWritten; dsimp only; split <;> simp

@[simp] theorem radioWritten_budget (position : Nat) (s : State) : (radioWritten position s).budget = s.budget := by
  unfold radioWritten; split <;> simp

@[simp] theorem interlockWritten_budget (position : Nat) (s : State) : (interlockWritten position s).budget = s.budget := by
  unfold interlockWritten; split <;> simp [latchAWritten, latchBWritten]

@[simp] theorem lightsWritten_budget (position : Nat) (s : State) : (lightsWritten position s).budget = s.budget := by
  unfold lightsWritten; split <;> simp

@[simp] theorem settingWritten_budget (chapter position : Nat) (s : State) :
    (settingWritten chapter position s).budget = s.budget := by
  unfold settingWritten
  split
  case h_1 => split <;> simp
  case h_3 => split <;> simp
  all_goals simp

@[simp] theorem guardWrite_budget (id : Nat) (value : List Byte) (clamped : Bool) (s : State) :
    (guardWrite id value clamped s).budget = s.budget := by
  unfold guardWrite; split <;> simp

@[simp] theorem writeSetting_budget (id : Nat) (value : List Byte) (s : State) :
    (writeSetting id value s).2.budget = s.budget := by
  unfold writeSetting
  split
  · rfl
  · split <;> simp

@[simp] theorem restoreDefaults_budget (s : State) : (restoreDefaults s).budget = s.budget := by simp [restoreDefaults]

/-! ## The actuators -/

@[simp] theorem steerFrameStep_budget (s : State) : (steerFrameStep s).budget = s.budget := by
  have hmove (u : State) : (moveOutputs u).budget = u.budget := by unfold moveOutputs; split <;> rfl
  unfold steerFrameStep
  dsimp only
  split <;> simp [completeTransition, hmove]

@[simp] theorem requestChange_budget (r : Option WinchRequest) (s : State) : (requestChange r s).budget = s.budget := by
  unfold requestChange
  repeat' split
  all_goals simp

@[simp] theorem startHead_budget (s : State) : (startHead s).budget = s.budget := by
  unfold startHead
  split
  · split
    · dsimp only; split <;> simp
    · rfl
  · rfl

@[simp] theorem winchFrameStep_budget (s : State) : (winchFrameStep s).budget = s.budget := by simp [winchFrameStep]

@[simp] theorem countMoved_budget (s : State) : (countMoved s).budget = s.budget := by
  unfold countMoved
  split
  · split <;> rfl
  · rfl

@[simp] theorem encPulseStep_budget (s : State) : (encPulseStep s).budget = s.budget := by
  unfold encPulseStep
  dsimp only
  repeat' split
  all_goals simp

@[simp] theorem hookChange_budget (v : Bool) (s : State) : (hookChange v s).budget = s.budget := by
  unfold hookChange
  dsimp only
  repeat' split
  all_goals simp

@[simp] theorem stallJudge_budget (s : State) : (stallJudge s).budget = s.budget := by
  unfold stallJudge
  repeat' split
  all_goals simp

@[simp] theorem winchSet_budget (s : State) : (winchSet s).budget = s.budget := by
  unfold winchSet; dsimp only; split <;> simp

@[simp] theorem hookJudged_budget (s : State) : (hookJudged s).budget = s.budget := by
  unfold hookJudged; dsimp only; split <;> simp

@[simp] theorem tiltJudged_budget (s : State) : (tiltJudged s).budget = s.budget := by
  unfold tiltJudged; dsimp only; split <;> simp

end Sys2Proof.Machine
end

