-- ==== Sys2Proof/Proofs/PublishedAllotment.lean ====
section
/-! SUPPORT. The published allotment keeps to R39 (O11): the records of a sample set, a start and a removal do, and every other
command leaves the record as it was. -/
namespace Sys2Proof.Machine

/-! ## Records that keep to R39 -/

/-- BudgetOk reads the published record alone. -/
theorem BudgetOk.of_budget_eq {s t : State} (hs : BudgetOk s) (h : t.budget = s.budget) : BudgetOk t := by
  unfold BudgetOk at *
  rwa [h]

theorem ratioOf_le (d g : Nat) : ratioOf d g ≤ 256 := by
  unfold ratioOf
  split
  · exact Nat.le_refl _
  · exact Nat.min_le_left _ _

/-- Shares of grants within their demands, whether the trip condition is true or not. -/
theorem sharesOf_ok {d g : PerClass Nat} (trip : Bool)
    (h : g.steer ≤ d.steer ∧ g.signal ≤ d.signal ∧ g.drive ≤ d.drive ∧ g.winch ≤ d.winch ∧ g.scene ≤ d.scene) :
    let q := sharesOf d g trip
    q.steer.ok ∧ q.signal.ok ∧ q.drive.ok ∧ q.winch.ok ∧ q.scene.ok := by
  have hfixed (demand grant : Nat) : (if trip then 0 else ratioOf demand grant) ≤ 256 := by
    split
    · exact Nat.zero_le _
    · exact ratioOf_le _ _
  obtain ⟨hst, hsi, hdr, hwi, hsc⟩ := h
  exact ⟨⟨hst, ratioOf_le _ _⟩, ⟨hsi, ratioOf_le _ _⟩, ⟨hdr, hfixed _ _⟩, ⟨hwi, hfixed _ _⟩, ⟨hsc, ratioOf_le _ _⟩⟩

/-- An allotment keeps to R39 from whatever state it is computed. -/
theorem publishAllotment_budgetOk (s : State) : BudgetOk (publishAllotment s) :=
  ⟨grantsOf_within _ _ _ _, sharesOf_ok _ (grantsOf_le _ _ _ _)⟩

/-- Nothing is demanded and nothing granted in the record of a start (R46). -/
theorem startAllotment_budgetOk {s : State} {identity : Option Identity} {now : Time}
    (h : s.budget.classes = (startAllotment identity now).classes) : BudgetOk s := by
  simp [BudgetOk, grantsWithin, ClassShare.ok, h, startAllotment, startShare]

/-! ## The events that replace the record: sample sets, starts and removals -/

theorem sampleSet_budgetOk (v i sv w : Nat) (s : State) : BudgetOk (sampleSet v i sv w s) := by
  unfold sampleSet
  split
  · exact (publishAllotment_budgetOk _).of_budget_eq (qualifySet_budget v _)
  · exact publishAllotment_budgetOk _

theorem start_budgetOk (cause : StartCause) (s : State) : BudgetOk (start cause s) := by
  refine startAllotment_budgetOk (identity := (loadSettings (logStart cause s)).retention.identity)
    (now := (loadSettings (logStart cause s)).now) ?_
  simp [start, beginBlocks]

theorem restart_budgetOk (s : State) : BudgetOk (restart s) := start_budgetOk _ _

theorem attach_budgetOk (backupMv : Nat) (s : State) : BudgetOk (attach backupMv s) := by
  unfold attach
  split
  · exact start_budgetOk _ _
  · exact start_budgetOk _ _

theorem loseVolatile_budgetOk (s : State) : BudgetOk (loseVolatile s) :=
  startAllotment_budgetOk (identity := none) (now := s.now) rfl

/-- The contents of the Retention Domain are lost; an attach that waited is a start. -/
theorem loseRetention_budgetOk {s : State} (hs : BudgetOk s) : BudgetOk (loseRetention s) := by
  unfold loseRetention
  dsimp only
  split
  · exact attach_budgetOk _ _
  · exact hs

theorem removePack_budgetOk (backupMv : Nat) (s : State) : BudgetOk (removePack backupMv s) := by
  unfold removePack
  dsimp only
  split
  · exact loseVolatile_budgetOk _
  · exact loseRetention_budgetOk (loseVolatile_budgetOk _)

theorem commitEnded_budgetOk (image : Settings) (ok : Bool) {s : State} (hs : BudgetOk s) :
    BudgetOk (commitEnded image ok s) := by
  unfold commitEnded
  dsimp only
  split
  · exact attach_budgetOk _ _
  · exact hs.of_budget_eq (enterLog_budget _ _ _)

theorem takeAttach_budgetOk (railMv backupMv : Nat) {s : State} (hs : BudgetOk s) :
    BudgetOk (takeAttach railMv backupMv s) := by
  unfold takeAttach
  split
  · exact hs
  · exact attach_budgetOk _ _

/-! ## Requests -/

/-- The state that the owner of a request leaves. -/
def Reply.state : Reply → State
  | .answer _ _ s => s
  | .started s => s

@[simp] theorem Reply.state_answer (st : Status) (data : List Byte) (s : State) : (Reply.answer st data s).state = s := rfl
@[simp] theorem Reply.state_started (s : State) : (Reply.started s).state = s := rfl
@[simp] theorem refuse_state (st : Status) (s : State) : (refuse st s).state = s := rfl

theorem finish_budget (code : Byte) (out : List Byte) (r : Reply) : (finish code out r).budget = r.state.budget := by
  cases r <;> rfl

theorem taken_budget (wakes : Bool) (s : State) : (taken wakes s).budget = s.budget := by
  unfold taken activity wakeFor
  split <;> simp

/-- A request keeps the record within R39 when its owner does; its wake and activity publish nothing. -/
theorem takeRequest_budgetOk {act : State → Reply} (hact : ∀ u, BudgetOk u → BudgetOk (act u).state) {s : State}
    (hs : BudgetOk s) (code : Byte) (wakes : Bool) (lengths : List Nat) (r : Request) :
    BudgetOk (takeRequest code wakes lengths act r s) := by
  have htaken : BudgetOk (taken wakes s) := hs.of_budget_eq (taken_budget wakes s)
  unfold takeRequest judgeRequest
  split
  · refine BudgetOk.of_budget_eq ?_ (finish_budget _ _ _)
    split
    · exact hact _ htaken
    · exact htaken
  · exact hs

/-- A request whose owner publishes nothing leaves the record as it was. -/
theorem takeRequest_quiet {act : State → Reply} (hact : ∀ u, (act u).state.budget = u.budget) {s : State}
    (hs : BudgetOk s) (code : Byte) (wakes : Bool) (lengths : List Nat) (r : Request) :
    BudgetOk (takeRequest code wakes lengths act r s) :=
  takeRequest_budgetOk (fun u hu => hu.of_budget_eq (hact u)) hs code wakes lengths r

@[simp] theorem claimRequest_budget (p : List Byte) (s : State) : (claimRequest p s).state.budget = s.budget := by
  have hjudge (f : Fn) (k : ClaimKind) (v : Int) : (judgeClaim f k v s).state.budget = s.budget := by
    unfold judgeClaim
    split
    · simp [refreshClaim]
    · split
      · rfl
      · split
        · rfl
        · simp [takeClaim]
  unfold claimRequest
  split
  · dsimp only
    split
    · exact hjudge _ _ _
    · rfl
  · rfl

@[simp] theorem releaseRequest_budget (p : List Byte) (s : State) : (releaseRequest p s).state.budget = s.budget := by
  unfold releaseRequest
  split
  · rfl
  · split
    · exact endClaimAlone_budget _ _ s
    · rfl

@[simp] theorem jobRequestTaken_budget (p : List Byte) (s : State) : (jobRequestTaken p s).state.budget = s.budget := by
  have hjudge (j : Job) (limited : Bool) : (judgeJob j limited s).state.budget = s.budget := by
    unfold judgeJob
    repeat' split
    case' isFalse => exact claimForJob_budget s
    all_goals rfl
  unfold jobRequestTaken
  split
  · rfl
  · split
    · rfl
    · exact hjudge _ _

@[simp] theorem cancelRequest_budget (s : State) : (cancelRequest s).state.budget = s.budget := by
  unfold cancelRequest; split <;> simp

@[simp] theorem clearRequest_budget (s : State) : (clearRequest s).state.budget = s.budget := by
  unfold clearRequest; split <;> simp

@[simp] theorem hazardRequest_budget (p : List Byte) (s : State) : (hazardRequest p s).state.budget = s.budget := by
  unfold hazardRequest
  split
  · simp [setHazard]
  · split <;> simp [setHazard]

@[simp] theorem ackRequest_budget (s : State) : (ackRequest s).state.budget = s.budget := by
  unfold ackRequest; split <;> simp

@[simp] theorem limpHomeRequest_budget (s : State) : (limpHomeRequest s).state.budget = s.budget := by
  unfold limpHomeRequest
  split
  · simp
  · split <;> rfl

@[simp] theorem parkRequest_budget (s : State) : (parkRequest s).state.budget = s.budget := by
  unfold parkRequest; split <;> simp

@[simp] theorem readLog_budget (s : State) : (readLog s).state.budget = s.budget := by
  unfold readLog; split <;> simp [readOne]

@[simp] theorem writeSettingRequest_budget (p : List Byte) (s : State) : (writeSettingRequest p s).state.budget = s.budget := by
  unfold writeSettingRequest; split <;> simp

@[simp] theorem commitRequest_budget (s : State) : (commitRequest s).state.budget = s.budget := by
  unfold commitRequest
  split
  · rfl
  · split
    · exact beginCommit_budget s
    · rfl

@[simp] theorem restoreRequest_budget (s : State) : (restoreRequest s).state.budget = s.budget := by
  unfold restoreRequest; split <;> simp

/-- RESTART publishes the record of a start, or is BUSY. -/
theorem restartRequest_budgetOk (s : State) (hs : BudgetOk s) : BudgetOk (restartRequest s).state := by
  unfold restartRequest
  split
  · exact hs
  · rw [Reply.state_started]
    exact restart_budgetOk s

/-! ## Every command -/

/-- What a command comes to keeps R39. -/
def Outcome.budgetOk (o : Outcome) : Prop := ∀ t, o = .next t → BudgetOk t

theorem Outcome.budgetOk_next {t : State} (h : BudgetOk t) : Outcome.budgetOk (.next t) := by
  intro u hu
  cases hu
  exact h

theorem event_budgetOk {f : State → State} {s : State} (hs : BudgetOk s) (hf : BudgetOk (f s)) (occurs : Bool) :
    Outcome.budgetOk (event occurs f s) := by
  refine Outcome.budgetOk_next ?_
  split
  · exact hf
  · exact hs

/-- An event that publishes nothing. -/
theorem event_quiet {f : State → State} {s : State} (hs : BudgetOk s) (hf : (f s).budget = s.budget) (occurs : Bool) :
    Outcome.budgetOk (event occurs f s) :=
  event_budgetOk hs (hs.of_budget_eq hf) occurs

/-- Seven commands replace the record; every other leaves it as it was. -/
theorem exec_budgetOk (i : Instr) {s : State} (hs : BudgetOk s) : Outcome.budgetOk (exec i s) := by
  cases i
  case sampleSet => exact event_budgetOk hs (sampleSet_budgetOk _ _ _ _ s) _
  case restart r => exact Outcome.budgetOk_next (takeRequest_budgetOk restartRequest_budgetOk hs _ _ _ r)
  case packAttach rail backup => exact event_budgetOk hs (takeAttach_budgetOk rail backup hs) _
  case retentionLoss => exact event_budgetOk hs (loseRetention_budgetOk hs) _
  case backupCellFitted => exact event_budgetOk hs (loseRetention_budgetOk hs) _
  case packRemoved rail backup =>
    dsimp only [exec, execPackRemoved]
    refine event_budgetOk hs ?_ _
    split
    · exact removePack_budgetOk backup s
    · exact hs
  case commitEnd ok =>
    dsimp only [exec, execCommitEnd]
    split
    · exact event_budgetOk hs (commitEnded_budgetOk _ ok hs) _
    · exact Outcome.budgetOk_next hs
  case srvPgChange good => exact Outcome.budgetOk_next (hs.of_budget_eq (srvPgChanged_budget good s))
  case telemetryReply idle =>
    dsimp only [exec, execTelemetryReply]
    split
    · exact event_quiet hs (replySlot_budget idle _ s) _
    · exact Outcome.budgetOk_next hs
  case blinkerStep =>
    dsimp only [exec, execBlinkerStep]
    split
    · exact event_quiet hs (blinkerBegin_budget _ s) _
    · exact Outcome.budgetOk_next hs
  case nop | readStatus | readPack | readAllotment | readCommands | claim | release | winchJob | winchCancel | winchClear
    | hazard | ackLocate | limpHome | park | readLog | readSetting | writeSetting | commit | restoreDefaults | clearCauses
    | unknownRequest =>
    refine Outcome.budgetOk_next (takeRequest_quiet (fun u => ?_) hs _ _ _ _)
    simp [readSettingRequest]
  all_goals
    dsimp only [exec, execIncompleteTransaction, execAssistWindowExpiry, execTripHoldExpiry, execTripLimpExpiry,
      execLimpHomePeriodExpiry, execBackupMeasurement, execRailWaitExpiry, execParkIdleExpiry, execRadioFrame,
      execHoldTimerExpiry, execFailsafeTimerExpiry, execClaimExpiry, execLockoutNeutralRunExpiry,
      execSwitchLockoutExpiry, execSteerFrame, execTransitionTimerExpiry, execEscFrame, execWinchFrame,
      execStoppingDwellExpiry, execEncPulse, execHookInputChange, execHookDebounceExpiry, execStallNeutralRunExpiry,
      execJobTimeout, execFreeForExpiry, execPatternStep, execTiltInputChange, execTiltDebounceExpiry,
      execTiltArmingExpiry, execLinkArmingExpiry]
    refine event_quiet hs ?_ _
    simp

/-- The passing of a millisecond publishes nothing (R55). -/
theorem tick_budget (s : State) : (tick s).budget = s.budget := by
  unfold tick; split <;> rfl

/-- Settles O11, by the case of the command in front: a sample set publishes a computed allotment, a start and a removal the
record of a start, and every other event leaves the record. -/
theorem grantsStayWithinHeadroom : Obligations.GrantsStayWithinHeadroom := by
  intro s t hs hstep
  unfold step at hstep
  split at hstep
  case h_1 c rest _ => exact exec_budgetOk c (s := { s with pending := rest }) hs t hstep
  case h_2 => exact Outcome.budgetOk_next (hs.of_budget_eq (tick_budget s)) t hstep

end Sys2Proof.Machine
end

