-- ==== Sys2Proof/Proofs/DriveArithmetic.lean ====
section
/-! SUPPORT. The arithmetic of the drive output (section 8.3): every step of the candidate and the ramp leads toward zero, and the
ramp is the same in both directions; and with them O18. -/
namespace Sys2Proof.Machine

/-! ## Values between zero and a value -/

/-- `c` lies between 0 and `v`, ends included: its magnitude is at most that of `v`, and its sign is not the other one. -/
def TowardZero (v c : Int) : Prop := 0 ≤ c ∧ c ≤ v ∨ v ≤ c ∧ c ≤ 0

namespace TowardZero

theorem zero (v : Int) : TowardZero v 0 := by unfold TowardZero; omega

theorem refl (v : Int) : TowardZero v v := by unfold TowardZero; omega

theorem neg_iff {v c : Int} : TowardZero (-v) (-c) ↔ TowardZero v c := by unfold TowardZero; omega

theorem natAbs_le {v c : Int} (h : TowardZero v c) : c.natAbs ≤ v.natAbs := by unfold TowardZero at h; omega

theorem nonneg {v c : Int} (h : TowardZero v c) (hv : 0 ≤ v) : 0 ≤ c := by unfold TowardZero at h; omega

theorem nonpos {v c : Int} (h : TowardZero v c) (hv : v ≤ 0) : c ≤ 0 := by unfold TowardZero at h; omega

end TowardZero

/-! ## The candidate (R147) -/

theorem capMagnitude_towardZero (limit : Nat) (v : Int) : TowardZero v (capMagnitude limit v) := by
  unfold TowardZero capMagnitude clampI
  split
  · omega
  · split <;> omega

theorem capMagnitude_of_le {limit : Nat} {v : Int} (h : v.natAbs ≤ limit) : capMagnitude limit v = v :=
  clampI_stays (by omega) (by omega)

theorem capMagnitude_of_lt {limit : Nat} {v : Int} (h : limit < v.natAbs) : (capMagnitude limit v).natAbs = limit := by
  unfold capMagnitude clampI
  split
  · omega
  · split <;> omega

section
variable (g : Int) (q pct : Nat) {level : Level} {trip : Bool}

/-- R147, step 3: a trip and CUTOFF force the candidate to 0. -/
theorem driveCandidate_forced (h : trip = true ∨ level = .cutoff) : driveCandidate g q level trip pct = 0 :=
  if_pos (by simpa using h)

/-- R147, step 1: at NORMAL and CONSERVE the candidate is the scaled throttle. -/
theorem driveCandidate_scaled (h : level = .normal ∨ level = .conserve) :
    driveCandidate g q level false pct = (g * q).tdiv 256 := by
  rcases h with rfl | rfl <;> rfl

/-- R147, step 2: in LIMP the candidate is the scaled throttle up to the cap. -/
theorem driveCandidate_limp : driveCandidate g q .limp false pct = capMagnitude (pct * 10) ((g * q).tdiv 256) := rfl

/-- Whatever the level and the trip, the candidate goes no further than the scaled throttle. -/
theorem driveCandidate_towardZero (level : Level) (trip : Bool) :
    TowardZero ((g * q).tdiv 256) (driveCandidate g q level trip pct) := by
  cases trip with
  | true => rw [driveCandidate_forced g q pct (.inl rfl)]; exact .zero _
  | false =>
    cases level with
    | normal => exact .refl _
    | conserve => exact .refl _
    | limp => rw [driveCandidate_limp]; exact capMagnitude_towardZero _ _
    | cutoff => exact .zero _

end

theorem scaled_natAbs (g : Int) (q : Nat) : ((g * q).tdiv 256).natAbs = g.natAbs * q / 256 := by
  rw [Int.natAbs_tdiv, Int.natAbs_mul]
  rfl

theorem scaled_nonneg {g : Int} (q : Nat) (h : 0 ≤ g) : 0 ≤ (g * q).tdiv 256 :=
  Int.tdiv_nonneg (Int.mul_nonneg h (Int.natCast_nonneg q)) (by decide)

theorem scaled_nonpos {g : Int} (q : Nat) (h : g ≤ 0) : (g * q).tdiv 256 ≤ 0 := by
  have hneg := scaled_nonneg q (Int.neg_nonneg_of_nonpos h)
  rw [Int.neg_mul, Int.neg_tdiv] at hneg
  exact Int.nonpos_of_neg_nonneg hneg

/-! ## The ramp (R148)

The rules for a positive candidate; those for a negative one are their mirror images. -/

theorem rampStep_off (p c : Int) : rampStep 0 p c = c := rfl

theorem rampStep_neg (ramp : Nat) (p c : Int) : rampStep ramp (-p) (-c) = -rampStep ramp p c := by
  have hfall : (-c = 0 ∨ 0 < -c ∧ 0 < -p ∧ -c ≤ -p ∨ -c < 0 ∧ -p < 0 ∧ -p ≤ -c) ↔
      (c = 0 ∨ 0 < c ∧ 0 < p ∧ c ≤ p ∨ c < 0 ∧ p < 0 ∧ p ≤ c) := by omega
  have hsign : (0 < -c ∧ 0 < -p ∨ -c < 0 ∧ -p < 0) ↔ (0 < c ∧ 0 < p ∨ c < 0 ∧ p < 0) := by omega
  have hbase : (if 0 < c ∧ 0 < p ∨ c < 0 ∧ p < 0 then -p else 0) = -(if 0 < c ∧ 0 < p ∨ c < 0 ∧ p < 0 then p else 0) := by
    split <;> rfl
  unfold rampStep
  simp only [hfall, hsign, hbase, Int.natAbs_neg]
  split
  · rfl
  · split
    · rfl
    · split <;> split <;> omega

theorem rampStep_zero (ramp : Nat) (p : Int) : rampStep ramp p 0 = 0 := by simp [rampStep]

section
variable {ramp : Nat} {p c : Int}

/-- A move toward 0 is not limited. -/
theorem rampStep_fall (ramp : Nat) (hc : 0 < c) (h : c ≤ p) : rampStep ramp p c = c := by
  unfold rampStep
  split
  · rfl
  · exact if_pos (.inr (.inl ⟨hc, by omega, h⟩))

/-- A rise with the sign of p goes on from p. -/
theorem rampStep_rise (hr : 0 < ramp) (hp : 0 < p) (h : p < c) :
    rampStep ramp p c = p + Int.ofNat (Nat.min ramp (c - p).toNat) := by
  have hmag : c.natAbs - p.natAbs = (c - p).toNat := by omega
  unfold rampStep
  rw [if_neg (by omega), if_neg (by omega)]
  dsimp only
  rw [if_pos (by omega), if_pos (by omega), hmag]
  rfl

/-- From 0, and at a reversal, the rise starts at 0. -/
theorem rampStep_fromZero (hr : 0 < ramp) (hc : 0 < c) (hp : p ≤ 0) :
    rampStep ramp p c = Int.ofNat (Nat.min ramp c.toNat) := by
  have hmag : c.natAbs - (0 : Int).natAbs = c.toNat := by omega
  unfold rampStep
  rw [if_neg (by omega), if_neg (by omega)]
  dsimp only
  rw [if_neg (c := _ ∨ _) (by omega), if_pos hc, hmag, Int.zero_add]
  rfl

end

theorem rampStep_towardZero_of_pos (ramp : Nat) (p : Int) {c : Int} (hc : 0 < c) : TowardZero c (rampStep ramp p c) := by
  rcases Nat.eq_zero_or_pos ramp with rfl | hr
  · exact .refl c
  rcases Int.lt_or_le p c with hpc | hpc
  · rcases Int.lt_or_le 0 p with hp | hp
    · have hle : Nat.min ramp (c - p).toNat ≤ (c - p).toNat := Nat.min_le_right _ _
      rw [rampStep_rise hr hp hpc, Int.ofNat_eq_natCast]
      exact .inl (by omega)
    · have hle : Nat.min ramp c.toNat ≤ c.toNat := Nat.min_le_right _ _
      rw [rampStep_fromZero hr hc hp, Int.ofNat_eq_natCast]
      exact .inl (by omega)
  · rw [rampStep_fall ramp hc hpc]
    exact .refl c

/-- The ramp never carries d_eff beyond the candidate. -/
theorem rampStep_towardZero (ramp : Nat) (p c : Int) : TowardZero c (rampStep ramp p c) := by
  rcases Int.lt_trichotomy c 0 with hc | rfl | hc
  · rw [← TowardZero.neg_iff, ← rampStep_neg]
    exact rampStep_towardZero_of_pos ramp (-p) (by omega)
  · rw [rampStep_zero]
    exact .zero 0
  · exact rampStep_towardZero_of_pos ramp p hc

/-- Settles O18: the steps of the candidate lead toward zero from the scaled throttle, and each move of the ramp is one of a fall,
a rise from p and a rise from 0, or the mirror image of one. -/
theorem driveArithmetic : Obligations.DriveArithmetic := by
  refine ⟨fun g q level trip pct => ?candidate, fun ramp p c => ?ramp⟩
  case candidate =>
    have htoward := driveCandidate_towardZero g q pct level trip
    refine ⟨scaled_natAbs g q ▸ htoward.natAbs_le, driveCandidate_forced g q pct,
      fun hg => htoward.nonneg (scaled_nonneg q hg), fun hg => htoward.nonpos (scaled_nonpos q hg), ?_, ?_⟩
    · rintro rfl
      exact driveCandidate_scaled g q pct
    · rintro rfl rfl
      simp only [driveCandidate_limp]
      exact ⟨capMagnitude_of_le, capMagnitude_of_lt⟩
  case ramp =>
    have hmirror : rampStep ramp p c = -rampStep ramp (-p) (-c) := by rw [rampStep_neg, Int.neg_neg]
    refine ⟨(rampStep_towardZero ramp p c).natAbs_le, ?off, rampStep_zero ramp p, rampStep_fall ramp, ?fallBelow,
      fun hr _ => rampStep_rise hr, rampStep_fromZero, ?riseBelow, ?fromZeroBelow⟩
    case off =>
      rintro rfl
      exact rampStep_off p c
    case fallBelow =>
      intro hc hpc
      rw [hmirror, rampStep_fall ramp (by omega) (by omega), Int.neg_neg]
    case riseBelow =>
      intro hr _ hp hcp
      have hgap : -c - -p = p - c := by omega
      rw [hmirror, rampStep_rise hr (by omega) (by omega), hgap, Int.neg_add, Int.neg_neg]
      exact Int.sub_eq_add_neg.symm
    case fromZeroBelow =>
      intro hr hc hp
      rw [hmirror, rampStep_fromZero hr (by omega) (by omega)]

end Sys2Proof.Machine
end
